-- ==== Sys2Proof/Word.lean ====
section
/-! DEFINITION. The word types of the PPU-IO core: bytes, BUS addresses, and the two word formats of its slave ports
(30_encoding R120 BUS25, R122 CMD32). -/

namespace Sys2Proof

/-- `u8` of 00_scope R7. -/
abbrev Byte := BitVec 8

/-- A BUS or FLAT address: `ADDR_WIDTH` = 16 bits (20_memory R80, R81). -/
abbrev Addr := BitVec 16

/-- One word on a slave port: a BUS transaction `T[24:0]` (R120) or a command `C[31:0]` (R122). -/
inductive PortWord where
  | bus (t : BitVec 25)
  | cmd (c : BitVec 32)
deriving DecidableEq, Repr

end Sys2Proof
end

