-- ==== Sys2Proof/Config.lean ====
section
/-! DEFINITION. The parameter record of 00_scope R6, which a model takes as its configuration, with the defaults the spec names.
The record stands in the state and no operation writes it (70_reset_and_hazards R352). -/

namespace Sys2Proof

/-- The controller ports the operations name: 0 and 1 (10_state R20, 40_controller R160, R162). Which of them exist is `nPorts`. -/
inductive PadPort where
  | port0
  | port1
deriving DecidableEq, Repr

/-- The eight memory-mapped register ports of the PPU (10_state R38); their indices are the parameters `IDX_*`. -/
inductive PpuReg where
  | ctrl
  | mask
  | status
  | oamAddr
  | oamData
  | scroll
  | addr
  | data
deriving DecidableEq, Repr

/-- An inclusive range of BUS addresses. -/
structure AddrRange where
  lo : Addr
  hi : Addr
deriving DecidableEq, Repr

/-- The implementation parameters of R6. What a value other than R6's does is said in log 28. `ADDR_WIDTH` and `FLAT_SIZE`, which
decision D4 leaves a model free to keep fixed, are the 16-bit address field of the word format BUS25 (30_encoding R120) and no
fields. -/
structure Config where
  /-- `VRAM_SIZE`. -/
  vramSize : Nat
  /-- `VRAM_MASK`, applied to `vramAddr` at every use and increment (20_memory R82, decision D18). -/
  vramMask : BitVec 16
  /-- `OAM_SIZE`. -/
  oamSize : Nat
  /-- `N_PORTS`: port p exists when p is below it. -/
  nPorts : Nat
  /-- W0 of `PPU_WINDOWS`. -/
  ppuWindow0 : AddrRange
  /-- W1 of `PPU_WINDOWS`. -/
  ppuWindow1 : AddrRange
  aStrobe : Addr
  aPad0 : Addr
  aPad1 : Addr
  aOamDma : Addr
  /-- `IDX_CTRL`, `IDX_MASK`, …, `IDX_DATA`: the index at which each register is reached. -/
  idxCtrl : BitVec 3
  idxMask : BitVec 3
  idxStatus : BitVec 3
  idxOamAddr : BitVec 3
  idxOamData : BitVec 3
  idxScroll : BitVec 3
  idxAddr : BitVec 3
  idxData : BitVec 3
  ctrlNmiBit : Fin 8
  ctrlIncBit : Fin 8
  statusVblankBit : Fin 8
  statusS0hitBit : Fin 8
  vramIncSmall : Nat
  vramIncLarge : Nat
  s0Threshold : Nat
  /-- `CTL_FILL_BIT`: true is 1. -/
  ctlFillBit : Bool
  ppuWoRead : Byte
  warmupSkips : Nat
  skipsMode0 : Nat
  skipsMode1 : Nat
  aTask : Addr
  aMode : Addr
  /-- `WATCHDOG_TIMEOUT`, in milliseconds (D33). -/
  watchdogTimeout : Nat
  /-- `SNAPSHOT_CELLS`: (label, flat-memory address), in order (10_state R56). -/
  snapshotCells : List (String × Addr)
deriving DecidableEq, Repr

/-- `A_TASK`: OPEN, no default (R6, D21). No body: nothing can be proved of its value (log 5). -/
opaque Config.openTaskAddr : Addr

/-- `A_MODE`: OPEN, no default (R6, D21). No body (log 5). -/
opaque Config.openModeAddr : Addr

/-- The record with every default R6 names. The defaults marked "decision" or "OPEN, default by decision" are the spec's own
choices, not the source's: DESIGN CHOICE (log 4). -/
def Config.default : Config where
  vramSize := 16384
  vramMask := 0x3FFF
  oamSize := 256
  nPorts := 2
  ppuWindow0 := ⟨0x2000, 0x2007⟩
  ppuWindow1 := ⟨0x2008, 0x3FFF⟩
  aStrobe := 0x4016
  aPad0 := 0x4016
  aPad1 := 0x4017
  aOamDma := 0x4014
  idxCtrl := 0
  idxMask := 1
  idxStatus := 2
  idxOamAddr := 3
  idxOamData := 4
  idxScroll := 5
  idxAddr := 6
  idxData := 7
  ctrlNmiBit := 7
  ctrlIncBit := 2
  statusVblankBit := 7
  statusS0hitBit := 6
  vramIncSmall := 1
  vramIncLarge := 32
  s0Threshold := 3
  ctlFillBit := true
  ppuWoRead := 0x00
  warmupSkips := 3
  skipsMode0 := 2
  skipsMode1 := 1
  aTask := Config.openTaskAddr
  aMode := Config.openModeAddr
  watchdogTimeout := 1000
  snapshotCells := []

/-- The eight register indices, in the order of `PpuReg`. -/
def Config.indices (cfg : Config) : List (BitVec 3) :=
  [cfg.idxCtrl, cfg.idxMask, cfg.idxStatus, cfg.idxOamAddr, cfg.idxOamData, cfg.idxScroll, cfg.idxAddr, cfg.idxData]

/-- The sizes fit the cells that address them: VRAM is 2^k bytes and `VRAM_MASK` keeps the k low bits ("address-masked to its valid
range", 10_state R36), the 8-bit OAM address wraps within OAM ("wrapping within the 256-byte OAM space", 41 R189), and
there are no more ports than the operations name. For sizes other than R6's: DESIGN CHOICE (log 28). -/
def Config.sizesWf (cfg : Config) : Bool :=
  (List.range 17).any (fun k => cfg.vramSize == 2 ^ k) && cfg.vramMask.toNat + 1 == cfg.vramSize && 256 % cfg.oamSize == 0 &&
    decide (cfg.nPorts ≤ 2)

/-- The constraints on the parameters: the two control positions differ and the two status positions differ (D9), the sprite-0
threshold is at least 1 (93_implementation_defined U2), each index is one register's (10_state R38), and the sizes fit. -/
def Config.wf (cfg : Config) : Bool :=
  cfg.ctrlNmiBit != cfg.ctrlIncBit && cfg.statusVblankBit != cfg.statusS0hitBit && decide (1 ≤ cfg.s0Threshold) &&
    decide cfg.indices.Nodup && cfg.sizesWf

end Sys2Proof
end

