-- ==== Sys2Proof/Machine/Operands.lean ====
section
/-! DEFINITION. Operand assembly and the arithmetic of the block: windows and register index, strobe bit, DMA source, port operand,
the halves and the step of `vramAddr`, the serial shift (30_encoding R124 to R128, 43_io_dispatcher R243, 20_memory R99). -/

namespace Sys2Proof.Machine

/-- `lo <= a <= hi`, unsigned (R7). -/
def inRange (r : AddrRange) (a : Addr) : Bool :=
  decide (r.lo ≤ a) && decide (a ≤ r.hi)

/-- `InPpuWindow(addr)`: the address lies in W0 or in W1 (43_io_dispatcher R243). -/
def inPpuWindow (cfg : Config) (a : Addr) : Bool :=
  inRange cfg.ppuWindow0 a || inRange cfg.ppuWindow1 a

/-- The PPU register index `addr[2:0]` (30_encoding R124). -/
def ppuIndex (a : Addr) : BitVec 3 :=
  a.extractLsb' 0 3

/-- The register at an index: `case idx of` (41_ppu_registers R181, R182), with the parameters `IDX_*` for the numbers. Where the
indices are not one-to-one, which `Config.wf` rules out, the first register in the order of 10_state R38 has an index that two
claim, and the data register an index that none claims: DESIGN CHOICE, unsafe (log 28). -/
def ppuRegister (cfg : Config) (idx : BitVec 3) : PpuReg :=
  if idx = cfg.idxCtrl then .ctrl
  else if idx = cfg.idxMask then .mask
  else if idx = cfg.idxStatus then .status
  else if idx = cfg.idxOamAddr then .oamAddr
  else if idx = cfg.idxOamData then .oamData
  else if idx = cfg.idxScroll then .scroll
  else if idx = cfg.idxAddr then .addr
  else .data

/-- The port exists: its number is below `N_PORTS`. -/
def hasPort (cfg : Config) : PadPort → Bool
  | .port0 => decide (0 < cfg.nPorts)
  | .port1 => decide (1 < cfg.nPorts)

/-- The read address of a port: one per port (43_io_dispatcher R246). -/
def padAddress (cfg : Config) : PadPort → Addr
  | .port0 => cfg.aPad0
  | .port1 => cfg.aPad1

/-- The address is the read address of an existing port. -/
def readsPad (cfg : Config) (p : PadPort) (a : Addr) : Bool :=
  hasPort cfg p && a == padAddress cfg p

/-- Of the byte written to the strobe only bit 0 is used (30_encoding R125). -/
def strobeBit (value : Byte) : Bool :=
  value.getLsbD 0

/-- The flat-memory address of byte `i` of a DMA page: `(page << 8) | i` (30_encoding R126). -/
def dmaSource (page i : Byte) : Addr :=
  (page.setWidth 16 <<< 8) ||| i.setWidth 16

/-- Only 0 and 1 select a controller port (30_encoding R127), where it exists. -/
def padOf (cfg : Config) (port : Byte) : Option PadPort :=
  (if port = 0 then some .port0 else if port = 1 then some .port1 else none).filter (hasPort cfg)

/-- The OAM byte an 8-bit OAM address selects: "OAM addresses are taken modulo 256", `OAM_SIZE` (20_memory R83, R85). -/
def oamIndex (cfg : Config) (addr : Byte) : Nat :=
  addr.toNat % cfg.oamSize

/-- A bool in bit 0 of a byte: `zext_8` (00_scope R7). -/
def zext8 (b : Bool) : Byte :=
  (BitVec.ofBool b).setWidth 8

/-- The high-byte write of `vramAddr`: `(v << 8) | (vramAddr & 0x00FF)` (20_memory R99). -/
def setHighByte (addr : BitVec 16) (v : Byte) : BitVec 16 :=
  (v.setWidth 16 <<< 8) ||| (addr &&& 0x00FF)

/-- The low-byte write of `vramAddr`: `(vramAddr & 0xFF00) | v` (20_memory R99). -/
def setLowByte (addr : BitVec 16) (v : Byte) : BitVec 16 :=
  (addr &&& 0xFF00) ||| v.setWidth 16

/-- `vramAddr & VRAM_MASK`: the only address into VRAM (20_memory R82). -/
def vramIndex (cfg : Config) (addr : BitVec 16) : BitVec 16 :=
  addr &&& cfg.vramMask

/-- The increment `ctrl` selects (41_ppu_registers R198). -/
def vramStep (cfg : Config) (ctrl : Byte) : Nat :=
  if ctrl.getLsbD cfg.ctrlIncBit then cfg.vramIncLarge else cfg.vramIncSmall

/-- `((vramAddr & VRAM_MASK) + inc) & VRAM_MASK` (41_ppu_registers R198). -/
def vramAdvance (cfg : Config) (inc : Nat) (addr : BitVec 16) : BitVec 16 :=
  vramIndex cfg (vramIndex cfg addr + BitVec.ofNat 16 inc)

/-- `(shiftRegister[p] >> 1) | (CTL_FILL_BIT << 7)` (20_memory R99). -/
def serialShift (fill : Bool) (r : Byte) : Byte :=
  (r >>> 1) ||| (zext8 fill <<< 7)

end Sys2Proof.Machine
end

