-- ==== Sys2Proof/Syntax.lean ====
section
/-! DEFINITION. The operations of the PPU-IO core, one constructor per row of spec/opcode_table.json, in the table's order
(30_encoding R129). -/

namespace Sys2Proof

/-- One operation on a slave port. A PPU register operation carries the whole BUS address `a`, since either window and any mirror
selects the register (R124, 20_memory R90). Bits a format does not examine (the data byte of a read, the unused operand bits of
a command: R120, R123) are no operand. -/
inductive Instr where
  -- BUS writes to a PPU window (41_ppu_registers R182)
  | ppuWr0Ctrl (a : Addr) (v : Byte)
  | ppuWr1Mask (a : Addr) (v : Byte)
  | ppuWr2Status (a : Addr) (v : Byte)
  | ppuWr3Oamaddr (a : Addr) (v : Byte)
  | ppuWr4Oamdata (a : Addr) (v : Byte)
  | ppuWr5Scroll (a : Addr) (v : Byte)
  | ppuWr6Addr (a : Addr) (v : Byte)
  | ppuWr7Data (a : Addr) (v : Byte)
  -- BUS reads of a PPU window (R181)
  | ppuRd0Ctrl (a : Addr)
  | ppuRd1Mask (a : Addr)
  | ppuRd2Status (a : Addr)
  | ppuRd3Oamaddr (a : Addr)
  | ppuRd4Oamdata (a : Addr)
  | ppuRd5Scroll (a : Addr)
  | ppuRd6Addr (a : Addr)
  | ppuRd7Data (a : Addr)
  -- the other BUS transactions (43_io_dispatcher R240)
  | oamdmaWr (page : Byte)
  | strobeWr (value : Byte)
  | pad0Rd
  | pad1Rd
  | memRd (a : Addr)
  | memWr (a : Addr) (v : Byte)
  -- commands (R123)
  | reset
  | ctlReset
  | setbtn (port mask : Byte)
  | ppuReset
  | beginVblank
  | endVblank
  | nmiQuery
  | schedInit
  | schedTick
  | skip (n : BitVec 24)
  | disable
  | runframe (port1Mask port2Mask : Byte)
  | deliveredQuery
  | setTimeout (duration : BitVec 24)
  | schedStat
  | supInit
deriving DecidableEq, Repr

end Sys2Proof
end

