-- ==== Sys2Proof/WellFormed.lean ====
section
/-! DEFINITION. Which operations have an encoding under a configuration: a PPU operation's address lies in a window and selects its
register, and an address that DISP matches later is not taken by an earlier condition (43_io_dispatcher R240). -/

namespace Sys2Proof

open Machine

/-- The address reaches PPU register `r` (30_encoding R124, 43_io_dispatcher R243). -/
def reaches (cfg : Config) (r : PpuReg) (a : Addr) : Bool :=
  inPpuWindow cfg a && ppuRegister cfg (ppuIndex a) == r

/-- A write of this address passes through to flat memory: no earlier condition of `Decode` takes it (43 R240, R249). -/
def passesOnWrite (cfg : Config) (a : Addr) : Bool :=
  !inPpuWindow cfg a && a != cfg.aOamDma && a != cfg.aStrobe

/-- A read of this address passes through to flat memory (43 R240, R250). -/
def passesOnRead (cfg : Config) (a : Addr) : Bool :=
  !inPpuWindow cfg a && !readsPad cfg .port0 a && !readsPad cfg .port1 a

/-- The operation has an encoding under `cfg`. -/
def wellFormed (cfg : Config) : Instr → Bool
  | .ppuWr0Ctrl a _ => reaches cfg .ctrl a
  | .ppuWr1Mask a _ => reaches cfg .mask a
  | .ppuWr2Status a _ => reaches cfg .status a
  | .ppuWr3Oamaddr a _ => reaches cfg .oamAddr a
  | .ppuWr4Oamdata a _ => reaches cfg .oamData a
  | .ppuWr5Scroll a _ => reaches cfg .scroll a
  | .ppuWr6Addr a _ => reaches cfg .addr a
  | .ppuWr7Data a _ => reaches cfg .data a
  | .ppuRd0Ctrl a => reaches cfg .ctrl a
  | .ppuRd1Mask a => reaches cfg .mask a
  | .ppuRd2Status a => reaches cfg .status a
  | .ppuRd3Oamaddr a => reaches cfg .oamAddr a
  | .ppuRd4Oamdata a => reaches cfg .oamData a
  | .ppuRd5Scroll a => reaches cfg .scroll a
  | .ppuRd6Addr a => reaches cfg .addr a
  | .ppuRd7Data a => reaches cfg .data a
  | .oamdmaWr _ => !inPpuWindow cfg cfg.aOamDma
  | .strobeWr _ => !inPpuWindow cfg cfg.aStrobe && cfg.aStrobe != cfg.aOamDma
  | .pad0Rd => !inPpuWindow cfg cfg.aPad0 && hasPort cfg .port0
  | .pad1Rd => !inPpuWindow cfg cfg.aPad1 && !readsPad cfg .port0 cfg.aPad1 && hasPort cfg .port1
  | .memRd a => passesOnRead cfg a
  | .memWr a _ => passesOnWrite cfg a
  | .reset => true
  | .ctlReset => true
  | .setbtn _ _ => true
  | .ppuReset => true
  | .beginVblank => true
  | .endVblank => true
  | .nmiQuery => true
  | .schedInit => true
  | .schedTick => true
  | .skip _ => true
  | .disable => true
  | .runframe _ _ => true
  | .deliveredQuery => true
  | .setTimeout _ => true
  | .schedStat => true
  | .supInit => true

end Sys2Proof
end

