-- ==== Sys2Proof/Decode.lean ====
section
/-! DEFINITION. Decoding the two port words (30_encoding R120, R122, R129; 43_io_dispatcher R240), total on every word and rejecting
reserved command codes by name (R130); the encoder, from the same formats; and the operation table's rows (R129). -/

namespace Sys2Proof

open Machine

/-- Why a word selects no operation: `op` 0x10 to 0xFF are reserved command codes (30_encoding R130). No BUS word is illegal (R131). -/
inductive DecodeReject where
  | reservedCommand (op : Byte)
deriving DecidableEq, Repr

/-- `T` = {rw, addr, data} (30_encoding R120); `rw` true is 1, a write. -/
def busWord (rw : Bool) (a : Addr) (data : Byte) : BitVec 25 :=
  BitVec.ofBool rw ++ a ++ data

/-- `T[24]`. -/
def busRw (t : BitVec 25) : Bool :=
  t.getLsbD 24

/-- `T[23:8]`. -/
def busAddr (t : BitVec 25) : Addr :=
  t.extractLsb' 8 16

/-- `T[7:0]`. -/
def busData (t : BitVec 25) : Byte :=
  t.extractLsb' 0 8

/-- `C` = {op, operand field} (30_encoding R122). -/
def cmdWord (op : Byte) (operand : BitVec 24) : BitVec 32 :=
  op ++ operand

/-- `C[31:24]`. -/
def cmdOp (c : BitVec 32) : Byte :=
  c.extractLsb' 24 8

/-- `C[23:0]`. -/
def cmdOperand (c : BitVec 32) : BitVec 24 :=
  c.extractLsb' 0 24

/-- `C[15:8]`. -/
def operandHigh (operand : BitVec 24) : Byte :=
  operand.extractLsb' 8 8

/-- `C[7:0]`. -/
def operandLow (operand : BitVec 24) : Byte :=
  operand.extractLsb' 0 8

/-- The operand field that carries two bytes, `C[23:16]` written 0 (30_encoding R123). -/
def twoByteOperand (high low : Byte) : BitVec 24 :=
  (0 : Byte) ++ high ++ low

/-- The write of a register, `PPU_WR idx` (30_encoding R129 item 1). -/
def ppuWrite (r : PpuReg) (a : Addr) (v : Byte) : Instr :=
  match r with
  | .ctrl => .ppuWr0Ctrl a v
  | .mask => .ppuWr1Mask a v
  | .status => .ppuWr2Status a v
  | .oamAddr => .ppuWr3Oamaddr a v
  | .oamData => .ppuWr4Oamdata a v
  | .scroll => .ppuWr5Scroll a v
  | .addr => .ppuWr6Addr a v
  | .data => .ppuWr7Data a v

/-- The read of a register, `PPU_RD idx` (30_encoding R129 item 2). -/
def ppuRead (r : PpuReg) (a : Addr) : Instr :=
  match r with
  | .ctrl => .ppuRd0Ctrl a
  | .mask => .ppuRd1Mask a
  | .status => .ppuRd2Status a
  | .oamAddr => .ppuRd3Oamaddr a
  | .oamData => .ppuRd4Oamdata a
  | .scroll => .ppuRd5Scroll a
  | .addr => .ppuRd6Addr a
  | .data => .ppuRd7Data a

/-- `Decode(1, addr)` with its byte (43_io_dispatcher R240, R242). -/
def decodeWrite (cfg : Config) (a : Addr) (v : Byte) : Instr :=
  if inPpuWindow cfg a then ppuWrite (ppuRegister cfg (ppuIndex a)) a v
  else if a = cfg.aOamDma then .oamdmaWr v
  else if a = cfg.aStrobe then .strobeWr v
  else .memWr a v

/-- `Decode(0, addr)` (43_io_dispatcher R240, R241). -/
def decodeRead (cfg : Config) (a : Addr) : Instr :=
  if inPpuWindow cfg a then ppuRead (ppuRegister cfg (ppuIndex a)) a
  else if readsPad cfg .port0 a then .pad0Rd
  else if readsPad cfg .port1 a then .pad1Rd
  else .memRd a

/-- Every BUS word selects exactly one operation (30_encoding R131); the data byte of a read is not examined (R120). -/
def decodeBus (cfg : Config) (t : BitVec 25) : Instr :=
  if busRw t then decodeWrite cfg (busAddr t) (busData t) else decodeRead cfg (busAddr t)

/-- The command codes (30_encoding R123); unused operand bits are not examined. -/
def decodeCmd (c : BitVec 32) : Except DecodeReject Instr :=
  let x := cmdOperand c
  match (cmdOp c).toNat with
  | 0x00 => .ok .reset
  | 0x01 => .ok .ctlReset
  | 0x02 => .ok (.setbtn (operandHigh x) (operandLow x))
  | 0x03 => .ok .ppuReset
  | 0x04 => .ok .beginVblank
  | 0x05 => .ok .endVblank
  | 0x06 => .ok .nmiQuery
  | 0x07 => .ok .schedInit
  | 0x08 => .ok .schedTick
  | 0x09 => .ok (.skip x)
  | 0x0A => .ok .disable
  | 0x0B => .ok (.runframe (operandHigh x) (operandLow x))
  | 0x0C => .ok .deliveredQuery
  | 0x0D => .ok (.setTimeout x)
  | 0x0E => .ok .schedStat
  | 0x0F => .ok .supInit
  | _ => .error (.reservedCommand (cmdOp c))

/-- The operation a port word selects. -/
def decode (cfg : Config) : PortWord → Except DecodeReject Instr
  | .bus t => .ok (decodeBus cfg t)
  | .cmd c => decodeCmd c

/-- The BUS word of a write. -/
def encodeWrite (a : Addr) (v : Byte) : PortWord :=
  .bus (busWord true a v)

/-- The BUS word of a read, its data byte written as 0x00 (30_encoding R120). -/
def encodeRead (a : Addr) : PortWord :=
  .bus (busWord false a 0)

/-- The word of a well-formed operation (30_encoding R120, R123). -/
def encode (cfg : Config) : Instr → PortWord
  | .ppuWr0Ctrl a v => encodeWrite a v
  | .ppuWr1Mask a v => encodeWrite a v
  | .ppuWr2Status a v => encodeWrite a v
  | .ppuWr3Oamaddr a v => encodeWrite a v
  | .ppuWr4Oamdata a v => encodeWrite a v
  | .ppuWr5Scroll a v => encodeWrite a v
  | .ppuWr6Addr a v => encodeWrite a v
  | .ppuWr7Data a v => encodeWrite a v
  | .ppuRd0Ctrl a => encodeRead a
  | .ppuRd1Mask a => encodeRead a
  | .ppuRd2Status a => encodeRead a
  | .ppuRd3Oamaddr a => encodeRead a
  | .ppuRd4Oamdata a => encodeRead a
  | .ppuRd5Scroll a => encodeRead a
  | .ppuRd6Addr a => encodeRead a
  | .ppuRd7Data a => encodeRead a
  | .oamdmaWr page => encodeWrite cfg.aOamDma page
  | .strobeWr value => encodeWrite cfg.aStrobe value
  | .pad0Rd => encodeRead cfg.aPad0
  | .pad1Rd => encodeRead cfg.aPad1
  | .memRd a => encodeRead a
  | .memWr a v => encodeWrite a v
  | .reset => .cmd (cmdWord 0x00 0)
  | .ctlReset => .cmd (cmdWord 0x01 0)
  | .setbtn port mask => .cmd (cmdWord 0x02 (twoByteOperand port mask))
  | .ppuReset => .cmd (cmdWord 0x03 0)
  | .beginVblank => .cmd (cmdWord 0x04 0)
  | .endVblank => .cmd (cmdWord 0x05 0)
  | .nmiQuery => .cmd (cmdWord 0x06 0)
  | .schedInit => .cmd (cmdWord 0x07 0)
  | .schedTick => .cmd (cmdWord 0x08 0)
  | .skip n => .cmd (cmdWord 0x09 n)
  | .disable => .cmd (cmdWord 0x0A 0)
  | .runframe p1 p2 => .cmd (cmdWord 0x0B (twoByteOperand p1 p2))
  | .deliveredQuery => .cmd (cmdWord 0x0C 0)
  | .setTimeout d => .cmd (cmdWord 0x0D d)
  | .schedStat => .cmd (cmdWord 0x0E 0)
  | .supInit => .cmd (cmdWord 0x0F 0)

/-- One BUS25 row of spec/opcode_table.json: the row matches `t` when `t & mask = match`. -/
structure BusRow where
  mnemonic : String
  pattern : BitVec 25
  mask : BitVec 25
deriving DecidableEq, Repr

/-- The sixteen PPU rows, mask 0x1E00700 (30_encoding R129). -/
def ppuRows : List BusRow := [
  ⟨"PPU_WR0_CTRL", 0x1200000, 0x1E00700⟩, ⟨"PPU_WR1_MASK", 0x1200100, 0x1E00700⟩,
  ⟨"PPU_WR2_STATUS", 0x1200200, 0x1E00700⟩, ⟨"PPU_WR3_OAMADDR", 0x1200300, 0x1E00700⟩,
  ⟨"PPU_WR4_OAMDATA", 0x1200400, 0x1E00700⟩, ⟨"PPU_WR5_SCROLL", 0x1200500, 0x1E00700⟩,
  ⟨"PPU_WR6_ADDR", 0x1200600, 0x1E00700⟩, ⟨"PPU_WR7_DATA", 0x1200700, 0x1E00700⟩,
  ⟨"PPU_RD0_CTRL", 0x0200000, 0x1E00700⟩, ⟨"PPU_RD1_MASK", 0x0200100, 0x1E00700⟩,
  ⟨"PPU_RD2_STATUS", 0x0200200, 0x1E00700⟩, ⟨"PPU_RD3_OAMADDR", 0x0200300, 0x1E00700⟩,
  ⟨"PPU_RD4_OAMDATA", 0x0200400, 0x1E00700⟩, ⟨"PPU_RD5_SCROLL", 0x0200500, 0x1E00700⟩,
  ⟨"PPU_RD6_ADDR", 0x0200600, 0x1E00700⟩, ⟨"PPU_RD7_DATA", 0x0200700, 0x1E00700⟩]

/-- The six other BUS rows; the two pass-through rows come last (30_encoding R129). -/
def otherBusRows : List BusRow := [
  ⟨"OAMDMA_WR", 0x1401400, 0x1FFFF00⟩, ⟨"STROBE_WR", 0x1401600, 0x1FFFF00⟩,
  ⟨"PAD0_RD", 0x0401600, 0x1FFFF00⟩, ⟨"PAD1_RD", 0x0401700, 0x1FFFF00⟩,
  ⟨"MEM_RD", 0x0000000, 0x1000000⟩, ⟨"MEM_WR", 0x1000000, 0x1000000⟩]

/-- The BUS rows of spec/opcode_table.json, in its order. -/
def busRows : List BusRow := ppuRows ++ otherBusRows

/-- First match in the table's order (30_encoding R129). -/
def busRowOf (t : BitVec 25) : Option String :=
  (busRows.find? fun r => t &&& r.mask == r.pattern).map (·.mnemonic)

/-- The row of spec/opcode_table.json an operation stands for. -/
def mnemonicOf : Instr → String
  | .ppuWr0Ctrl _ _ => "PPU_WR0_CTRL"
  | .ppuWr1Mask _ _ => "PPU_WR1_MASK"
  | .ppuWr2Status _ _ => "PPU_WR2_STATUS"
  | .ppuWr3Oamaddr _ _ => "PPU_WR3_OAMADDR"
  | .ppuWr4Oamdata _ _ => "PPU_WR4_OAMDATA"
  | .ppuWr5Scroll _ _ => "PPU_WR5_SCROLL"
  | .ppuWr6Addr _ _ => "PPU_WR6_ADDR"
  | .ppuWr7Data _ _ => "PPU_WR7_DATA"
  | .ppuRd0Ctrl _ => "PPU_RD0_CTRL"
  | .ppuRd1Mask _ => "PPU_RD1_MASK"
  | .ppuRd2Status _ => "PPU_RD2_STATUS"
  | .ppuRd3Oamaddr _ => "PPU_RD3_OAMADDR"
  | .ppuRd4Oamdata _ => "PPU_RD4_OAMDATA"
  | .ppuRd5Scroll _ => "PPU_RD5_SCROLL"
  | .ppuRd6Addr _ => "PPU_RD6_ADDR"
  | .ppuRd7Data _ => "PPU_RD7_DATA"
  | .oamdmaWr _ => "OAMDMA_WR"
  | .strobeWr _ => "STROBE_WR"
  | .pad0Rd => "PAD0_RD"
  | .pad1Rd => "PAD1_RD"
  | .memRd _ => "MEM_RD"
  | .memWr _ _ => "MEM_WR"
  | .reset => "RESET"
  | .ctlReset => "CTL_RESET"
  | .setbtn _ _ => "SETBTN"
  | .ppuReset => "PPU_RESET"
  | .beginVblank => "BEGIN_VBLANK"
  | .endVblank => "END_VBLANK"
  | .nmiQuery => "NMI_QUERY"
  | .schedInit => "SCHED_INIT"
  | .schedTick => "SCHED_TICK"
  | .skip _ => "SKIP"
  | .disable => "DISABLE"
  | .runframe _ _ => "RUNFRAME"
  | .deliveredQuery => "DELIVERED_QUERY"
  | .setTimeout _ => "SET_TIMEOUT"
  | .schedStat => "SCHED_STAT"
  | .supInit => "SUP_INIT"

/-- The port word a table number stands for. The two formats go to two ports, and a number of `nbits` bits does not say which: up to
25 bits it is a BUS25 word; a 32-bit number is a command when it has a bit above bit 24, or when its operand field is 0, the form
in which a command without operands is written (R123); otherwise it is a BUS25 word in a 32-bit cell. DESIGN CHOICE (log 12). -/
def tableWord (nbits w : Nat) : PortWord :=
  let n := w % 2 ^ nbits
  if nbits ≤ 25 then .bus (BitVec.ofNat 25 n)
  else if 2 ^ 25 ≤ n ∨ n % 2 ^ 24 = 0 then .cmd (BitVec.ofNat 32 n)
  else .bus (BitVec.ofNat 25 n)

/-- The operation the decoder reads from a table number, under the default parameters the table is written in (30_encoding R129). -/
def decodeTableWord (nbits w : Nat) : Option Instr :=
  match decode Config.default (tableWord nbits w) with
  | .ok i => some i
  | .error _ => none

end Sys2Proof
end

