-- ==== Sys2Proof/Machine/State.lean ====
section
/-! DEFINITION. The state of the PPU-IO core and of what stands around its ports, as plain data (10_state), its reset values
(10_state section 6, 70_reset_and_hazards R350, R351), and the reasons a step can stop. -/

namespace Sys2Proof.Machine

/-- Bytes by address, sparse: addresses strictly rising, no entry equal to what an unlisted address reads as (`Memory.wf`). -/
abbrev Memory := List Host.Cell

/-- One byte per controller port (10_state R20, R21). -/
structure PerPort where
  port0 : Byte
  port1 : Byte
deriving DecidableEq, Repr

/-- CTL, the controller shift-register device (10_state R20 to R22). -/
structure Ctl where
  buttonState : PerPort
  shiftRegister : PerPort
  strobeState : Bool
deriving DecidableEq, Repr

/-- PPU, the register device (10_state R24 to R37); the status byte is a view of `vblank` and `sprite0Hit` (R26). -/
structure Ppu where
  ctrl : Byte
  mask : Byte
  oamAddr : Byte
  scrollX : Byte
  scrollY : Byte
  vramAddr : BitVec 16
  /-- The write toggle registers 5 and 6 share (R31); false is 0. -/
  w : Bool
  vblank : Bool
  sprite0Hit : Bool
  statusReads : Nat
  ppuFrame : Nat
  /-- Keyed by masked addresses, below `VRAM_SIZE` (R36). -/
  vram : Memory
  /-- Keyed by addresses below `OAM_SIZE` (R37). -/
  oam : Memory
deriving DecidableEq, Repr

/-- SCHED, the NMI scheduler (10_state R40 to R44). -/
structure Sched where
  pendingSkips : Nat
  prevTask : Byte
  prevMode : Byte
  isFirstFrame : Bool
  nmiPending : Bool
  skippedCount : Nat
deriving DecidableEq, Repr

/-- The only sequencing state of the block (10_state R52). -/
inductive Phase where
  | idle
  | inHandler
  | halted
deriving DecidableEq, Repr

/-- The error a HANDLER raises, opaque to the block (10_state R55, 60_exceptions R312): any natural number, carried and never
examined. DESIGN CHOICE (log 10). -/
abbrev ErrorValue := Nat

/-- An ordered list of (label, numeric value) pairs (10_state R54). -/
abbrev Snapshot := List (String × Nat)

/-- SUP, the frame supervisor (10_state R50 to R55). -/
structure Sup where
  frameCounter : Nat
  /-- Milliseconds (R51, D33); stored, never computed with. -/
  timeout : Nat
  phase : Phase
  nmiDelivered : Bool
  snapshot : Option Snapshot
  /-- Frame number and error value. -/
  lastHandlerError : Option (Nat × ErrorValue)
deriving DecidableEq, Repr

/-- The agents that put operations on the slave ports (00_scope R5). -/
inductive Agent where
  | host
  | handler
deriving DecidableEq, Repr

/-- The rows of operations the admission table tells apart (45_frame_supervisor R291). -/
inductive OpClass where
  /-- a BUS transaction -/
  | bus
  /-- `SKIP`, `DISABLE`: commands the HANDLER may issue too -/
  | handlerCommand
  /-- `SUP_INIT`, `RESET`: the commands admitted in `Halted` -/
  | restart
  /-- every other command -/
  | hostCommand
deriving DecidableEq, Repr

/-- The two exceptions of the block (60_exceptions R310). -/
inductive HandlerException where
  /-- the HANDLER ended by raising its own error (R312) -/
  | handlerFault (e : ErrorValue)
  /-- the WATCHDOG's wait ran out (R311) -/
  | handlerTimeout
deriving DecidableEq, Repr

/-- What an operation puts on its port (00_scope R9, 30_encoding R121, R123, R128). -/
inductive Reply where
  /-- outcome `ok` without a value -/
  | ok
  /-- outcome `ignored` -/
  | ignored
  /-- BUS read data -/
  | byte (v : Byte)
  /-- result of `NMI_QUERY`, `DELIVERED_QUERY` -/
  | bit (b : Bool)
  /-- result of `SCHED_STAT` -/
  | stat (pendingSkips skippedCount : Nat)
  /-- the NMI port's `invoke`: `RUNFRAME` has started the HANDLER and its result is still to come (60 R319) -/
  | invoke
  /-- RESULT code 0 -/
  | done (delivered : Bool)
  /-- RESULT code 1: `HandlerFault(frame, e)` raised -/
  | raisedFault (frame : Nat) (e : ErrorValue)
  /-- RESULT code 2: `HandlerTimeout(snapshot)` raised -/
  | raisedTimeout (s : Snapshot)
deriving DecidableEq, Repr

/-- The button masks of one frame of a movie (42_movie_input R220). -/
structure MovieFrameInput where
  port1 : Byte
  port2 : Byte
deriving DecidableEq, Repr

/-- What an agent does next on the ports (00_scope R5, 45_frame_supervisor R283). The model's own type (log 1). -/
inductive Event where
  /-- one operation on a slave port -/
  | port (agent : Agent) (word : PortWord)
  /-- the HOST drives frame `k` of a run from its movie (42_movie_input R221) -/
  | movieFrame (k : Nat)
  /-- the HANDLER's sequence ends normally: `Returned` -/
  | handlerReturns
  /-- the HANDLER's sequence ends by raising its own error: `Faulted(e)` -/
  | handlerFaults (e : ErrorValue)
  /-- the WATCHDOG's wait runs out: `TimedOut` -/
  | watchdogFires
deriving DecidableEq, Repr

/-- The whole machine. `cfg`, `mem` and `movie` stand outside the block (R56 to R58); `inputs`, `issuer` and `reply` are the model's
own fields for the ports (logs 1, 2, 3). -/
structure State where
  cfg : Config
  ctl : Ctl
  ppu : Ppu
  sched : Sched
  sup : Sup
  /-- Flat memory, keyed by 16-bit addresses (10_state R57). -/
  mem : Memory
  movie : List MovieFrameInput
  inputs : List Event
  issuer : Agent
  reply : Reply
deriving DecidableEq, Repr

/-- The block raises no fault of its own: every input is sanitized or ignored (60_exceptions R313), and its two exceptions are taken
as next states with the exception on the RESULT port. So the type has no constructor: nobody raises one. SAFE (log 21). -/
inductive Fault where
deriving DecidableEq, Repr

/-- Where the spec gives an operation the outcome `refused` (00_scope R9): no step. All are SAFE: a claim about a next state says
nothing there. -/
inductive Refusal where
  /-- raised by `exec` alone, for an operation that has no meaning yet (none in this model); safe -/
  | notModelled (mnemonic : String)
  /-- raised by the step: a reserved command code, in every phase (30_encoding R130); safe -/
  | reservedCommand (op : Byte)
  /-- raised by any operation of the HANDLER, or an end of it, in `Idle`: no handler runs (45 R291); safe -/
  | noHandlerRuns
  /-- raised by any operation of the HOST in `InHandler`: the HOST waits inside `RUNFRAME` (45 R291); safe -/
  | hostWaits
  /-- raised by a command of the HANDLER other than `SKIP`, `DISABLE` in `InHandler` (45 R291); safe -/
  | notForHandler
  /-- raised in `Halted` by every operation but the HOST's `SUP_INIT` and `RESET` (45 R291); safe -/
  | halted
  /-- raised by the WATCHDOG's event when no invocation is being timed (60 R324); safe -/
  | watchdogNotArmed
deriving DecidableEq, Repr

/-- The three outcomes of a step over this state. -/
abbrev StepResult := Host.Outcome State Fault Refusal

/-- After `CTL_RESET` (40_controller R163). -/
def Ctl.reset : Ctl where
  buttonState := ⟨0x00, 0x00⟩
  shiftRegister := ⟨0x00, 0x00⟩
  strobeState := false

/-- After `PPU_RESET` (41_ppu_registers R203). -/
def Ppu.reset : Ppu where
  ctrl := 0x00
  mask := 0x00
  oamAddr := 0x00
  scrollX := 0x00
  scrollY := 0x00
  vramAddr := 0x0000
  w := false
  vblank := false
  sprite0Hit := false
  statusReads := 0
  ppuFrame := 0
  vram := []
  oam := []

/-- After `SCHED_INIT` (44_nmi_scheduler R260). -/
def Sched.init (cfg : Config) : Sched where
  pendingSkips := cfg.warmupSkips
  prevTask := 0x00
  prevMode := 0x00
  isFirstFrame := true
  nmiPending := false
  skippedCount := 0

/-- After `SUP_INIT` (45_frame_supervisor R280). -/
def Sup.init (cfg : Config) : Sup where
  frameCounter := 0
  timeout := cfg.watchdogTimeout
  phase := .idle
  nmiDelivered := false
  snapshot := none
  lastHandlerError := none

/-- Power-on, equal to the state after `RESET` (70 R351). The fields no reset touches (R352) are the default configuration, flat
memory with nothing listed and the empty movie; no agent has put anything on a port (logs 1 to 6, 8, 18). -/
def State.reset : State where
  cfg := Config.default
  ctl := Ctl.reset
  ppu := Ppu.reset
  sched := Sched.init Config.default
  sup := Sup.init Config.default
  mem := []
  movie := []
  inputs := []
  issuer := .host
  reply := .ok

end Sys2Proof.Machine
end

