-- ==== Sys2Proof/Machine/Flags.lean ====
section
/-! DEFINITION. The status byte and the flag effects of the PPU device (10_state R26, 41_ppu_registers R185, R200 to R202). -/

namespace Sys2Proof.Machine

/-- `StatusByte()`: the view of the two flags; every other bit is 0 (10_state R26). -/
def statusByte (cfg : Config) (p : Ppu) : Byte :=
  (zext8 p.vblank <<< cfg.statusVblankBit.val) ||| (zext8 p.sprite0Hit <<< cfg.statusS0hitBit.val)

/-- `ctrl[CTRL_NMI_BIT] == 1` (10_state R24). -/
def nmiEnabled (cfg : Config) (p : Ppu) : Bool :=
  p.ctrl.getLsbD cfg.ctrlNmiBit.val

/-- `shouldTriggerNmi()`: a pure predicate (41_ppu_registers R202). -/
def shouldTriggerNmi (cfg : Config) (p : Ppu) : Bool :=
  p.vblank && nmiEnabled cfg p

/-- The counter step of a status read, taken while the flag is false (41_ppu_registers R185). -/
def Ppu.countStatusRead (cfg : Config) (p : Ppu) : Ppu :=
  if p.sprite0Hit then p
  else { p with statusReads := p.statusReads + 1, sprite0Hit := decide (cfg.s0Threshold ≤ p.statusReads + 1) }

/-- Every side effect of a status read (41_ppu_registers R185). -/
def Ppu.statusRead (cfg : Config) (p : Ppu) : Ppu :=
  { p with vblank := false, w := false }.countStatusRead cfg

/-- `beginVBlank()` (41_ppu_registers R200). -/
def Ppu.beginVblank (p : Ppu) : Ppu :=
  { p with vblank := true, sprite0Hit := false, statusReads := 0 }

/-- `endVBlank()` (41_ppu_registers R201). -/
def Ppu.endVblank (p : Ppu) : Ppu :=
  { p with vblank := false, sprite0Hit := true, ppuFrame := p.ppuFrame + 1 }

end Sys2Proof.Machine
end

