-- ==== Sys2Proof/Machine/Ops.lean ====
section
/-! DEFINITION. The shared operations: memory, admission by phase, the NMI's entry and return, and the taking of the two exceptions
(20_memory, 45_frame_supervisor R281 to R291, 60_exceptions). -/

namespace Sys2Proof.Machine

/-- What an unlisted address reads as. For VRAM and OAM it is the reset value (10_state R36, R37); for flat memory the spec gives
none: DESIGN CHOICE, unsafe (log 6). -/
def Memory.unlisted : Byte := 0x00

/-- The byte at an address. -/
def Memory.read : Memory → Nat → Byte
  | [], _ => Memory.unlisted
  | (k, v) :: m, a => if a = k then v else Memory.read m a

/-- One byte written, the canonical form kept. -/
def Memory.write : Memory → Nat → Byte → Memory
  | [], a, v => if v = Memory.unlisted then [] else [(a, v)]
  | (k, x) :: m, a, v =>
    if a < k then (if v = Memory.unlisted then (k, x) :: m else (a, v) :: (k, x) :: m)
    else if a = k then (if v = Memory.unlisted then m else (a, v) :: m)
    else (k, x) :: Memory.write m a v

/-- Addresses strictly rise from `lo`, stay below `size`, and no entry holds what an unlisted address reads as. -/
def Memory.wfFrom (lo size : Nat) : Memory → Bool
  | [] => true
  | (k, v) :: m => decide (lo ≤ k) && decide (k < size) && v != Memory.unlisted && Memory.wfFrom (k + 1) size m

/-- The canonical form of a memory of `size` bytes. -/
def Memory.wf (size : Nat) (m : Memory) : Bool :=
  Memory.wfFrom 0 size m

/-- Consecutive bytes from an 8-bit OAM address, "wrapping within the 256-byte OAM space" (41_ppu_registers R189). -/
def Memory.copyBytes (cfg : Config) (m : Memory) (start : Byte) : List Byte → Memory
  | [] => m
  | b :: bs => Memory.copyBytes cfg (m.write (oamIndex cfg start) b) (start + 1) bs

/-- `MemRead(addr, 1)`: flat memory, past DISP (00_scope R8). -/
def memRead (s : State) (a : Addr) : Byte :=
  s.mem.read a.toNat

/-- `MemWrite(addr, 1, v)` (00_scope R8). -/
def memWrite (s : State) (a : Addr) (v : Byte) : State :=
  { s with mem := s.mem.write a.toNat v }

/-- The operation leaves `r` on its port. -/
def State.answer (s : State) (r : Reply) : State :=
  { s with reply := r }

/-- The admission table (45_frame_supervisor R291): none is admitted. -/
def admission : Phase → Agent → OpClass → Option Refusal
  | .idle, .host, _ => none
  | .idle, .handler, _ => some .noHandlerRuns
  | .inHandler, .host, _ => some .hostWaits
  | .inHandler, .handler, .bus => none
  | .inHandler, .handler, .handlerCommand => none
  | .inHandler, .handler, .restart => some .notForHandler
  | .inHandler, .handler, .hostCommand => some .notForHandler
  | .halted, .host, .restart => none
  | .halted, .host, .bus => some .halted
  | .halted, .host, .handlerCommand => some .halted
  | .halted, .host, .hostCommand => some .halted
  | .halted, .handler, _ => some .halted

/-- An operation of class `c` in state `s` whose effect is the state `t`: refused where the table refuses it. -/
def guarded (c : OpClass) (s t : State) : StepResult :=
  match admission s.sup.phase s.issuer c with
  | none => .next t
  | some r => .refused r

/-- Who owns the ports (20_memory R93): the HANDLER while it runs, else the HOST. -/
def portOwner : Phase → Agent
  | .idle => .host
  | .inHandler => .handler
  | .halted => .host

/-- The cells of `snapshotCells`, in order (45_frame_supervisor R287). -/
def readCells (m : Memory) (cells : List (String × Addr)) : Snapshot :=
  cells.map fun c => (c.1, (m.read c.2.toNat).toNat)

/-- `MakeSnapshot(f)` (45_frame_supervisor R287). -/
def makeSnapshot (f : Nat) (s : State) : Snapshot :=
  ("frame", f) :: readCells s.mem s.cfg.snapshotCells

/-- Entry of the NMI (60_exceptions R319): nothing of the block's state is saved; RUNFRAME's result is still to come. -/
def deliverNmi (s : State) : State :=
  { s with
    sched := { s.sched with nmiPending := false }
    sup := { s.sup with nmiDelivered := true, phase := .inHandler }
    reply := .invoke }

/-- The end of a frame: the counter steps once and the result is `Done(nmiDelivered)` (45_frame_supervisor R282). -/
def finishFrame (s : State) : State :=
  { s with
    sup := { s.sup with frameCounter := s.sup.frameCounter + 1 }
    reply := .done s.sup.nmiDelivered }

/-- Return from the HANDLER (45_frame_supervisor R284, 60_exceptions R321): nothing to restore. -/
def returnFromHandler (s : State) : State :=
  finishFrame { s with sup := { s.sup with phase := .idle } }

/-- The record an exception leaves, its phase and its value on the RESULT port, for the frame number `f`. -/
def exceptionRecord (f : Nat) (x : HandlerException) (s : State) : State :=
  match x with
  | .handlerFault e =>
    { s with sup := { s.sup with lastHandlerError := some (f, e), phase := .idle }, reply := .raisedFault f e }
  | .handlerTimeout =>
    { s with
      sup := { s.sup with snapshot := some (makeSnapshot f s), phase := .halted }
      reply := .raisedTimeout (makeSnapshot f s) }

/-- Taking an exception (45_frame_supervisor R285, R286; 60_exceptions R311, R312): the record carries the number of the frame, and
the frame counter steps on this path too. -/
def raiseException (x : HandlerException) (s : State) : State :=
  let t := exceptionRecord s.sup.frameCounter x s
  { t with sup := { t.sup with frameCounter := s.sup.frameCounter + 1 } }

/-- How an invocation ends (45_frame_supervisor R283), admitted only while the HANDLER runs (R291). -/
def endHandler (s t : State) : StepResult :=
  match s.sup.phase with
  | .idle => .refused .noHandlerRuns
  | .inHandler => .next t
  | .halted => .refused .halted

/-- The WATCHDOG is armed from the `invoke` to the end of the invocation (60_exceptions R319, R324). -/
def watchdogExpires (s : State) : StepResult :=
  match s.sup.phase with
  | .idle => .refused .watchdogNotArmed
  | .inHandler => .next (raiseException .handlerTimeout s)
  | .halted => .refused .watchdogNotArmed

end Sys2Proof.Machine
end

