-- ==== Sys2Proof/Machine/Dispatcher.lean ====
section
/-! DEFINITION. What DISP does itself: the OAM DMA and the pass-through to flat memory (43_io_dispatcher R248 to R250). -/

namespace Sys2Proof.Machine

/-- The 256 source bytes, read from flat memory and not through `Decode` (43_io_dispatcher R248). -/
def dmaBytes (m : Memory) (page : Byte) : List Byte :=
  (List.range 256).map fun i => m.read (dmaSource page (BitVec.ofNat 8 i)).toNat

/-- `OamDma(src)`: `oamAddr` unchanged (41_ppu_registers R189). -/
def Ppu.oamDma (cfg : Config) (p : Ppu) (src : List Byte) : Ppu :=
  { p with oam := p.oam.copyBytes cfg p.oamAddr src }

/-- OAMDMA_WR (R248). -/
def execOamdmaWr (page : Byte) (s : State) : StepResult :=
  guarded .bus s { s with ppu := s.ppu.oamDma s.cfg (dmaBytes s.mem page), reply := .ok }

/-- MEM_RD (R250). -/
def execMemRd (a : Addr) (s : State) : StepResult :=
  guarded .bus s (s.answer (.byte (memRead s a)))

/-- MEM_WR (R249). -/
def execMemWr (a : Addr) (v : Byte) (s : State) : StepResult :=
  guarded .bus s ((memWrite s a v).answer .ok)

end Sys2Proof.Machine
end

