-- ==== Sys2Proof/Machine/Controller.lean ====
section
/-! DEFINITION. The controller shift-register device: SETBTN, STROBE_WR, PAD0_RD, PAD1_RD, CTL_RESET (40_controller). -/

namespace Sys2Proof.Machine

/-- Element `p` of a per-port array. -/
def PerPort.get (x : PerPort) : PadPort → Byte
  | .port0 => x.port0
  | .port1 => x.port1

/-- The array with element `p` written. -/
def PerPort.set (x : PerPort) (p : PadPort) (v : Byte) : PerPort :=
  match p with
  | .port0 => { x with port0 := v }
  | .port1 => { x with port1 := v }

/-- `buttonState[p] <- mask` (40_controller R160). -/
def Ctl.setButtons (c : Ctl) (p : PadPort) (mask : Byte) : Ctl :=
  { c with buttonState := c.buttonState.set p mask }

/-- Both shift registers take the button masks. -/
def Ctl.latch (c : Ctl) : Ctl :=
  { c with shiftRegister := c.buttonState }

/-- `writeStrobe(value)`: a change of the strobe, either edge, latches both registers (40_controller R161). -/
def Ctl.writeStrobe (c : Ctl) (value : Byte) : Ctl :=
  let new := strobeBit value
  { (if c.strobeState = new then c else c.latch) with strobeState := new }

/-- The registers a read sees: re-latched while the strobe is high (40_controller R162). -/
def Ctl.seen (c : Ctl) : Ctl :=
  if c.strobeState then c.latch else c

/-- The byte a serial read of port `p` returns (40_controller R162). -/
def Ctl.padByte (c : Ctl) (p : PadPort) : Byte :=
  zext8 ((c.seen.shiftRegister.get p).getLsbD 0)

/-- The device after a serial read of port `p`: shifted only while the strobe is low (40_controller R162). -/
def Ctl.padRead (fill : Bool) (c : Ctl) (p : PadPort) : Ctl :=
  if c.strobeState then c.latch
  else { c with shiftRegister := c.shiftRegister.set p (serialShift fill (c.shiftRegister.get p)) }

/-- `ReadController(p)` (40_controller R162). -/
def readController (p : PadPort) (s : State) : State :=
  { s with ctl := s.ctl.padRead s.cfg.ctlFillBit p, reply := .byte (s.ctl.padByte p) }

/-- `SetButtons(p, mask)` as the supervisor calls it (45_frame_supervisor R282); a port that does not exist is ignored (R160). -/
def setButtons (p : PadPort) (mask : Byte) (s : State) : State :=
  { s with ctl := if hasPort s.cfg p then s.ctl.setButtons p mask else s.ctl }

/-- The device part of a reset (40_controller R163). -/
def resetCtl (s : State) : State :=
  { s with ctl := Ctl.reset }

/-- SETBTN (R160): a port other than 0 or 1 makes it `ignored`. -/
def execSetbtn (port mask : Byte) (s : State) : StepResult :=
  guarded .hostCommand s <|
    match padOf s.cfg port with
    | some p => (setButtons p mask s).answer .ok
    | none => s.answer .ignored

/-- STROBE_WR (R161, 43_io_dispatcher R245). -/
def execStrobeWr (value : Byte) (s : State) : StepResult :=
  guarded .bus s { s with ctl := s.ctl.writeStrobe value, reply := .ok }

/-- PAD0_RD (R162, 43_io_dispatcher R246). -/
def execPad0Rd (s : State) : StepResult :=
  guarded .bus s (readController .port0 s)

/-- PAD1_RD (R162, 43_io_dispatcher R246). -/
def execPad1Rd (s : State) : StepResult :=
  guarded .bus s (readController .port1 s)

/-- CTL_RESET (R163): not a strobe edge. -/
def execCtlReset (s : State) : StepResult :=
  guarded .hostCommand s ((resetCtl s).answer .ok)

end Sys2Proof.Machine
end

