-- ==== Sys2Proof/Machine/PpuRegisters.lean ====
section
/-! DEFINITION. The PPU register device: the sixteen register operations, BEGIN_VBLANK, END_VBLANK, NMI_QUERY, PPU_RESET
(41_ppu_registers). The address of a register operation has done its work in the decoder (30_encoding R124). -/

namespace Sys2Proof.Machine

/-- `OamDataWrite(v)` (41_ppu_registers R187). -/
def Ppu.oamDataWrite (cfg : Config) (p : Ppu) (v : Byte) : Ppu :=
  { p with oam := p.oam.write (oamIndex cfg p.oamAddr) v, oamAddr := p.oamAddr + 1 }

/-- `oam[oamAddr]` (R188). -/
def Ppu.oamDataRead (cfg : Config) (p : Ppu) : Byte :=
  p.oam.read (oamIndex cfg p.oamAddr)

/-- `ScrollWrite(v)` (R192). -/
def Ppu.scrollWrite (p : Ppu) (v : Byte) : Ppu :=
  if p.w then { p with scrollY := v, w := false } else { p with scrollX := v, w := true }

/-- `AddrWrite(v)` (R193). -/
def Ppu.addrWrite (p : Ppu) (v : Byte) : Ppu :=
  if p.w then { p with vramAddr := setLowByte p.vramAddr v, w := false }
  else { p with vramAddr := setHighByte p.vramAddr v, w := true }

/-- `VramInc()`: the control bit is sampled at the access (R198). -/
def Ppu.vramInc (cfg : Config) (p : Ppu) : Ppu :=
  { p with vramAddr := vramAdvance cfg (vramStep cfg p.ctrl) p.vramAddr }

/-- `vram[vramAddr & VRAM_MASK] <- v` (R194). -/
def Ppu.vramStore (cfg : Config) (p : Ppu) (v : Byte) : Ppu :=
  { p with vram := p.vram.write (vramIndex cfg p.vramAddr).toNat v }

/-- `vram[vramAddr & VRAM_MASK]` (R195). -/
def Ppu.vramLoad (cfg : Config) (p : Ppu) : Byte :=
  p.vram.read (vramIndex cfg p.vramAddr).toNat

/-- A register write: the device changes, nothing else does (43_io_dispatcher R244). -/
def ppuWritten (p : Ppu) (s : State) : StepResult :=
  guarded .bus s { s with ppu := p, reply := .ok }

/-- A register read: the byte returned, and the device after the side effects. -/
def ppuReturns (v : Byte) (p : Ppu) (s : State) : StepResult :=
  guarded .bus s { s with ppu := p, reply := .byte v }

/-- The read of a write-only register returns `PPU_WO_READ` and has no effect (R190). -/
def readWriteOnly (s : State) : StepResult :=
  ppuReturns s.cfg.ppuWoRead s.ppu s

/-- PPU_WR0_CTRL (R183). -/
def execPpuWr0Ctrl (_a : Addr) (v : Byte) (s : State) : StepResult :=
  ppuWritten { s.ppu with ctrl := v } s

/-- PPU_WR1_MASK (R184). -/
def execPpuWr1Mask (_a : Addr) (v : Byte) (s : State) : StepResult :=
  ppuWritten { s.ppu with mask := v } s

/-- PPU_WR2_STATUS (R191): `ignored`. -/
def execPpuWr2Status (_a : Addr) (_v : Byte) (s : State) : StepResult :=
  guarded .bus s (s.answer .ignored)

/-- PPU_WR3_OAMADDR (R186). -/
def execPpuWr3Oamaddr (_a : Addr) (v : Byte) (s : State) : StepResult :=
  ppuWritten { s.ppu with oamAddr := v } s

/-- PPU_WR4_OAMDATA (R187). -/
def execPpuWr4Oamdata (_a : Addr) (v : Byte) (s : State) : StepResult :=
  ppuWritten (s.ppu.oamDataWrite s.cfg v) s

/-- PPU_WR5_SCROLL (R192). -/
def execPpuWr5Scroll (_a : Addr) (v : Byte) (s : State) : StepResult :=
  ppuWritten (s.ppu.scrollWrite v) s

/-- PPU_WR6_ADDR (R193). -/
def execPpuWr6Addr (_a : Addr) (v : Byte) (s : State) : StepResult :=
  ppuWritten (s.ppu.addrWrite v) s

/-- PPU_WR7_DATA (R194). -/
def execPpuWr7Data (_a : Addr) (v : Byte) (s : State) : StepResult :=
  ppuWritten ((s.ppu.vramStore s.cfg v).vramInc s.cfg) s

/-- PPU_RD0_CTRL (R190). -/
def execPpuRd0Ctrl (_a : Addr) (s : State) : StepResult :=
  readWriteOnly s

/-- PPU_RD1_MASK (R190). -/
def execPpuRd1Mask (_a : Addr) (s : State) : StepResult :=
  readWriteOnly s

/-- PPU_RD2_STATUS (R185): the byte is sampled before every side effect. -/
def execPpuRd2Status (_a : Addr) (s : State) : StepResult :=
  ppuReturns (statusByte s.cfg s.ppu) (s.ppu.statusRead s.cfg) s

/-- PPU_RD3_OAMADDR (R190). -/
def execPpuRd3Oamaddr (_a : Addr) (s : State) : StepResult :=
  readWriteOnly s

/-- PPU_RD4_OAMDATA (R188): does not increment. -/
def execPpuRd4Oamdata (_a : Addr) (s : State) : StepResult :=
  ppuReturns (s.ppu.oamDataRead s.cfg) s.ppu s

/-- PPU_RD5_SCROLL (R190). -/
def execPpuRd5Scroll (_a : Addr) (s : State) : StepResult :=
  readWriteOnly s

/-- PPU_RD6_ADDR (R190). -/
def execPpuRd6Addr (_a : Addr) (s : State) : StepResult :=
  readWriteOnly s

/-- PPU_RD7_DATA (R195): the byte at the address before the increment, with no delay. -/
def execPpuRd7Data (_a : Addr) (s : State) : StepResult :=
  ppuReturns (s.ppu.vramLoad s.cfg) (s.ppu.vramInc s.cfg) s

/-- `BeginVBlank()` as the supervisor calls it (R200). -/
def beginVblank (s : State) : State :=
  { s with ppu := s.ppu.beginVblank }

/-- `EndVBlank()` as the supervisor calls it (R201). -/
def endVblank (s : State) : State :=
  { s with ppu := s.ppu.endVblank }

/-- The device part of a reset (R203). -/
def resetPpu (s : State) : State :=
  { s with ppu := Ppu.reset }

/-- BEGIN_VBLANK (R200). -/
def execBeginVblank (s : State) : StepResult :=
  guarded .hostCommand s ((beginVblank s).answer .ok)

/-- END_VBLANK (R201). -/
def execEndVblank (s : State) : StepResult :=
  guarded .hostCommand s ((endVblank s).answer .ok)

/-- NMI_QUERY (R202): no state changes. -/
def execNmiQuery (s : State) : StepResult :=
  guarded .hostCommand s (s.answer (.bit (shouldTriggerNmi s.cfg s.ppu)))

/-- PPU_RESET (R203). -/
def execPpuReset (s : State) : StepResult :=
  guarded .hostCommand s ((resetPpu s).answer .ok)

end Sys2Proof.Machine
end

