-- ==== Sys2Proof/Machine/Scheduler.lean ====
section
/-! DEFINITION. The NMI scheduler and its skip heuristic: SCHED_INIT, SCHED_TICK, SKIP, DISABLE, SCHED_STAT (44_nmi_scheduler). -/

namespace Sys2Proof.Machine

/-- `pendingSkips` after the 0 to 1 task transition at `mode` (44_nmi_scheduler R263). -/
def skipsAtMode (cfg : Config) (mode : Byte) (present : Nat) : Nat :=
  if mode = 0 then cfg.skipsMode0 else if mode = 1 then cfg.skipsMode1 else present

/-- `prevTask`, `prevMode` take the cells. -/
def Sched.record (d : Sched) (task mode : Byte) : Sched :=
  { d with prevTask := task, prevMode := mode }

/-- `TransitionStep(task, mode)` (R262 on the first call, R263 on every later one). -/
def Sched.transitionStep (cfg : Config) (d : Sched) (task mode : Byte) : Sched :=
  if d.isFirstFrame then { d.record task mode with isFirstFrame := false }
  else if d.prevTask = 0 ∧ task = 1 then
    { d.record task mode with pendingSkips := skipsAtMode cfg mode d.pendingSkips }
  else d.record task mode

/-- `DueStep()` (R264). -/
def Sched.dueStep (due : Bool) (d : Sched) : Sched :=
  if due then
    if 0 < d.pendingSkips then
      { d with pendingSkips := d.pendingSkips - 1, skippedCount := d.skippedCount + 1 }
    else { d with nmiPending := true }
  else d

/-- The per-frame call (R261): the cells are read once, at the start. -/
def schedTick (s : State) : State :=
  let d := s.sched.transitionStep s.cfg (memRead s s.cfg.aTask) (memRead s s.cfg.aMode)
  { s with sched := d.dueStep (shouldTriggerNmi s.cfg s.ppu) }

/-- The scheduler part of a reset (R260). -/
def initSched (s : State) : State :=
  { s with sched := Sched.init s.cfg }

/-- `disable()` (R266): nothing else changes. -/
def Sched.disable (d : Sched) (task mode : Byte) : Sched :=
  { d.record task mode with pendingSkips := 0 }

/-- SCHED_INIT (R260). -/
def execSchedInit (s : State) : StepResult :=
  guarded .hostCommand s ((initSched s).answer .ok)

/-- SCHED_TICK (R261). -/
def execSchedTick (s : State) : StepResult :=
  guarded .hostCommand s ((schedTick s).answer .ok)

/-- SKIP n (R265). -/
def execSkip (n : BitVec 24) (s : State) : StepResult :=
  guarded .handlerCommand s
    { s with sched := { s.sched with pendingSkips := s.sched.pendingSkips + n.toNat }, reply := .ok }

/-- DISABLE (R266). -/
def execDisable (s : State) : StepResult :=
  guarded .handlerCommand s
    { s with sched := s.sched.disable (memRead s s.cfg.aTask) (memRead s s.cfg.aMode), reply := .ok }

/-- SCHED_STAT (R267): no state changes. -/
def execSchedStat (s : State) : StepResult :=
  guarded .hostCommand s (s.answer (.stat s.sched.pendingSkips s.sched.skippedCount))

end Sys2Proof.Machine
end

