-- ==== Sys2Proof/Machine/Supervisor.lean ====
section
/-! DEFINITION. The frame supervisor: SUP_INIT, RUNFRAME, DELIVERED_QUERY, SET_TIMEOUT (45_frame_supervisor), and the reset line
RESET (70_reset_and_hazards R350). -/

namespace Sys2Proof.Machine

/-- The supervisor part of a reset (45_frame_supervisor R280). -/
def initSup (s : State) : State :=
  { s with sup := Sup.init s.cfg }

/-- The frame up to the scheduler tick, in the order of R282. -/
def frameStart (p1 p2 : Byte) (s : State) : State :=
  let t := { s with sup := { s.sup with nmiDelivered := false } }
  schedTick (beginVblank (endVblank (setButtons .port1 p2 (setButtons .port0 p1 t))))

/-- `RunFrame(p1, p2)` up to the handler's invocation, or to its end where no interrupt is pending (R282); the HANDLER's own
operations and the end of its invocation are later steps (00_scope R11; log 24). -/
def runFrame (p1 p2 : Byte) (s : State) : State :=
  let t := frameStart p1 p2 s
  if t.sched.nmiPending then deliverNmi t else finishFrame t

/-- SUP_INIT (R280). -/
def execSupInit (s : State) : StepResult :=
  guarded .restart s ((initSup s).answer .ok)

/-- RUNFRAME (R281, R282). -/
def execRunframe (p1 p2 : Byte) (s : State) : StepResult :=
  guarded .hostCommand s (runFrame p1 p2 s)

/-- DELIVERED_QUERY (R288): no state changes. -/
def execDeliveredQuery (s : State) : StepResult :=
  guarded .hostCommand s (s.answer (.bit s.sup.nmiDelivered))

/-- SET_TIMEOUT d (R289). -/
def execSetTimeout (d : BitVec 24) (s : State) : StepResult :=
  guarded .hostCommand s { s with sup := { s.sup with timeout := d.toNat }, reply := .ok }

/-- RESET (70_reset_and_hazards R350): the four component resets, in this order, as one step. -/
def execReset (s : State) : StepResult :=
  guarded .restart s ((initSup (initSched (resetPpu (resetCtl s)))).answer .ok)

end Sys2Proof.Machine
end

