-- ==== Sys2Proof/Machine/Dispatch.lean ====
section
/-! DEFINITION. One arm per operation of the table (30_encoding R129), each one call of its meaning. -/

namespace Sys2Proof.Machine

def exec (i : Instr) (s : State) : Host.Outcome State Fault Refusal :=
  match i with
  | .ppuWr0Ctrl a v => Sys2Proof.Machine.execPpuWr0Ctrl a v s
  | .ppuWr1Mask a v => Sys2Proof.Machine.execPpuWr1Mask a v s
  | .ppuWr2Status a v => Sys2Proof.Machine.execPpuWr2Status a v s
  | .ppuWr3Oamaddr a v => Sys2Proof.Machine.execPpuWr3Oamaddr a v s
  | .ppuWr4Oamdata a v => Sys2Proof.Machine.execPpuWr4Oamdata a v s
  | .ppuWr5Scroll a v => Sys2Proof.Machine.execPpuWr5Scroll a v s
  | .ppuWr6Addr a v => Sys2Proof.Machine.execPpuWr6Addr a v s
  | .ppuWr7Data a v => Sys2Proof.Machine.execPpuWr7Data a v s
  | .ppuRd0Ctrl a => Sys2Proof.Machine.execPpuRd0Ctrl a s
  | .ppuRd1Mask a => Sys2Proof.Machine.execPpuRd1Mask a s
  | .ppuRd2Status a => Sys2Proof.Machine.execPpuRd2Status a s
  | .ppuRd3Oamaddr a => Sys2Proof.Machine.execPpuRd3Oamaddr a s
  | .ppuRd4Oamdata a => Sys2Proof.Machine.execPpuRd4Oamdata a s
  | .ppuRd5Scroll a => Sys2Proof.Machine.execPpuRd5Scroll a s
  | .ppuRd6Addr a => Sys2Proof.Machine.execPpuRd6Addr a s
  | .ppuRd7Data a => Sys2Proof.Machine.execPpuRd7Data a s
  | .oamdmaWr page => Sys2Proof.Machine.execOamdmaWr page s
  | .strobeWr value => Sys2Proof.Machine.execStrobeWr value s
  | .pad0Rd => Sys2Proof.Machine.execPad0Rd s
  | .pad1Rd => Sys2Proof.Machine.execPad1Rd s
  | .memRd a => Sys2Proof.Machine.execMemRd a s
  | .memWr a v => Sys2Proof.Machine.execMemWr a v s
  | .reset => Sys2Proof.Machine.execReset s
  | .ctlReset => Sys2Proof.Machine.execCtlReset s
  | .setbtn port mask => Sys2Proof.Machine.execSetbtn port mask s
  | .ppuReset => Sys2Proof.Machine.execPpuReset s
  | .beginVblank => Sys2Proof.Machine.execBeginVblank s
  | .endVblank => Sys2Proof.Machine.execEndVblank s
  | .nmiQuery => Sys2Proof.Machine.execNmiQuery s
  | .schedInit => Sys2Proof.Machine.execSchedInit s
  | .schedTick => Sys2Proof.Machine.execSchedTick s
  | .skip n => Sys2Proof.Machine.execSkip n s
  | .disable => Sys2Proof.Machine.execDisable s
  | .runframe port1Mask port2Mask => Sys2Proof.Machine.execRunframe port1Mask port2Mask s
  | .deliveredQuery => Sys2Proof.Machine.execDeliveredQuery s
  | .setTimeout duration => Sys2Proof.Machine.execSetTimeout duration s
  | .schedStat => Sys2Proof.Machine.execSchedStat s
  | .supInit => Sys2Proof.Machine.execSupInit s

end Sys2Proof.Machine
end

