-- ==== Sys2Proof/Machine/Movie.lean ====
section
/-! DEFINITION. The movie input source, host-side stimulus (42_movie_input): the lookup, the three line shapes and the bare dialect's
printer. Text is a list of characters. Nothing of the block depends on this file but the HOST's event that plays a frame. -/

namespace Sys2Proof.Machine

/-- "no buttons" (42_movie_input R220). -/
def neutralInput : MovieFrameInput := ⟨0x00, 0x00⟩

/-- `getFrame(n)` (R221). -/
def getFrame (movie : List MovieFrameInput) (n : Nat) : MovieFrameInput :=
  movie[n]?.getD neutralInput

/-- The mask of characters `i`, `i + 1`, … of a button string: character `i` is bit `7 - i` (R222). -/
def pressedFrom (i : Nat) : List Char → Byte
  | [] => 0
  | c :: cs => (if c = '.' then 0 else (1 : Byte) <<< (7 - i)) ||| pressedFrom (i + 1) cs

/-- The mask of a button string of exactly 8 characters (R222). -/
def buttonMask (s : List Char) : Option Byte :=
  if s.length = 8 then some (pressedFrom 0 s) else none

/-- The substrings between separators; one more than there are separators. -/
def splitAt (sep : Char) : List Char → List (List Char)
  | [] => [[]]
  | c :: cs =>
    if c = sep then [] :: splitAt sep cs
    else match splitAt sep cs with
      | [] => [[c]]
      | f :: fs => (c :: f) :: fs

/-- White space of a line (log 18). -/
def isBlank (c : Char) : Bool :=
  c = ' ' || c = '\t' || c = '\r'

/-- White space taken off both ends (R224 a). -/
def trimBlanks (l : List Char) : List Char :=
  ((l.dropWhile isBlank).reverse.dropWhile isBlank).reverse

/-- The fields of a line that, trimmed, begins and ends with a pipe: the substrings between consecutive pipes (R224 a; log 19). -/
def pipeFields (line : List Char) : Option (List (List Char)) :=
  let t := trimBlanks line
  if t.head? = some '|' ∧ t.getLast? = some '|' then some (splitAt '|' t).tail.dropLast else none

/-- A field that is missing or not 8 characters long gives 0x00 (R224 b). -/
def fieldMask (fields : List (List Char)) (n : Nat) : Byte :=
  ((fields[n]?).bind buttonMask).getD 0

/-- The tokens of the free-text format, case-sensitive (R225). -/
def tokenMask (t : List Char) : Option Byte :=
  if t = ['R'] then some 0x80
  else if t = ['L'] then some 0x40
  else if t = ['D'] then some 0x20
  else if t = ['U'] then some 0x10
  else if t = ['S', 't'] ∨ t = ['S', 't', 'a', 'r', 't'] then some 0x08
  else if t = ['S', 'e'] ∨ t = ['S', 'e', 'l', 'e', 'c', 't'] then some 0x04
  else if t = ['B'] then some 0x02
  else if t = ['A'] then some 0x01
  else none

/-- The OR of the tokens' masks; an unrecognised token makes the line unparsable (R225). -/
def tokensMask : List (List Char) → Option Byte
  | [] => some 0
  | t :: ts =>
    match tokenMask t, tokensMask ts with
    | some m, some n => some (m ||| n)
    | _, _ => none

/-- One line: the shapes of R223 in their order; none adds no frame. A line of 8 characters that has the token shape too, such as
`Select+A`, is taken as a bare button string: DESIGN CHOICE, unsafe (log 30). -/
def parseLine (line : List Char) : Option MovieFrameInput :=
  if line.all isBlank then none
  else match pipeFields line with
    | some fields => some ⟨fieldMask fields 1, fieldMask fields 2⟩
    | none =>
      match buttonMask line with
      | some m => some ⟨m, 0x00⟩
      | none => (tokensMask (splitAt '+' line)).map fun m => ⟨m, 0x00⟩

/-- The parsed lines in file order, skipping the rest (R223, R228). -/
def parseMovie (text : List Char) : List MovieFrameInput :=
  (splitAt '\n' text).filterMap parseLine

/-- The letters of the button string from character `i` on: the button's letter for a pressed button (R227). -/
def formatFrom (mask : Byte) (i : Nat) : List Char → List Char
  | [] => []
  | c :: cs => (if mask.getLsbD (7 - i) then c else '.') :: formatFrom mask (i + 1) cs

/-- The 8-character button string of a mask (R227). -/
def formatMask (mask : Byte) : List Char :=
  formatFrom mask 0 ['R', 'L', 'D', 'U', 'T', 'S', 'B', 'A']

/-- One line per frame, each ended by a line break, in the bare dialect (R227; log 25). The line carries the port-1 mask alone: a
port-2 mask other than 0x00, which R227 and 91_not_in_source N22 leave without a place in this dialect, is not written. DESIGN
CHOICE, unsafe (log 29). -/
def formatMovie : List MovieFrameInput → List Char
  | [] => []
  | f :: fs => formatMask f.port1 ++ '\n' :: formatMovie fs

end Sys2Proof.Machine
end

