-- ==== Sys2Proof/Machine/Ports.lean ====
section
/-! DEFINITION. One event on the ports (00_scope R5, R11): a port word is decoded under the state's parameters and executed for the
agent that put it there; the ends of a handler invocation (45_frame_supervisor R283). -/

namespace Sys2Proof.Machine

/-- `exec` for the agent that issues the operation. -/
def execFor (agent : Agent) (i : Instr) (s : State) : StepResult :=
  exec i { s with issuer := agent }

/-- One word on a slave port: a BUS transaction is `BusRead` or `BusWrite` (43_io_dispatcher R241, R242), a command is looked up by
its code; a reserved code is refused (30_encoding R130). -/
def runWord (agent : Agent) (word : PortWord) (s : State) : StepResult :=
  match decode s.cfg word with
  | .ok i => execFor agent i s
  | .error (.reservedCommand op) => .refused (.reservedCommand op)

/-- The HOST drives frame `k` with `RUNFRAME` and `getFrame(k)` (42_movie_input R221). -/
def playFrame (k : Nat) (s : State) : StepResult :=
  let f := getFrame s.movie k
  execFor .host (.runframe f.port1 f.port2) s

/-- What one event does. -/
def runEvent : Event → State → StepResult
  | .port agent word, s => runWord agent word s
  | .movieFrame k, s => playFrame k s
  | .handlerReturns, s => endHandler s (returnFromHandler s)
  | .handlerFaults e, s => endHandler s (raiseException (.handlerFault e) s)
  | .watchdogFires, s => watchdogExpires s

/-- The event that puts a table number on its port, issued by the owner of the ports (20_memory R93; logs 12, 13). -/
def tableEvent (s : State) (nbits w : Nat) : Event :=
  .port (portOwner s.sup.phase) (tableWord nbits w)

end Sys2Proof.Machine
end

