-- ==== Sys2Proof/Machine/Step.lean ====
section
/-! DEFINITION. One step: the oldest event that stands on the ports is taken; with none, the block holds its state
(60_exceptions R328, 70_reset_and_hazards R353). -/

namespace Sys2Proof.Machine

/-- One step of the machine. -/
def step (s : State) : Host.Outcome State Fault Refusal :=
  match s.inputs with
  | [] => .next s
  | e :: rest => runEvent e { s with inputs := rest }

/-- The state with that table word put on its port as the next event: the block fetches nothing (20_memory R96), so this stands for
an agent issuing the operation (log 13). -/
def State.withFetchWord (s : State) (nbits w : Nat) : State :=
  { s with inputs := tableEvent s nbits w :: s.inputs }

end Sys2Proof.Machine
end

