-- ==== Sys2Proof/Safety.lean ====
section
/-! DEFINITION. What claims are stated in: the machine's invariant, the class and the admission of an operation, and the replies of a
run. -/

namespace Sys2Proof.Machine

/-- The three memories keep their canonical form, each within its size (20_memory R80, 00_scope R6). -/
def State.memoriesWf (s : State) : Prop :=
  s.mem.wf 65536 = true ∧ s.ppu.vram.wf s.cfg.vramSize = true ∧ s.ppu.oam.wf s.cfg.oamSize = true

/-- `statusReads` stays within the threshold and, while the flag has not appeared, below it (10_state R34, 41_ppu_registers R185). -/
def Ppu.counterWf (cfg : Config) (p : Ppu) : Prop :=
  p.statusReads ≤ cfg.s0Threshold ∧ (p.sprite0Hit = false → p.statusReads < cfg.s0Threshold)

/-- What the supervisor's phase says of its other cells (10_state R52 to R55, 45_frame_supervisor R285 to R287): while the HANDLER
runs an interrupt was delivered and none is pending; the snapshot exists in `Halted` alone and carries the number of the last frame;
a recorded error carries the number of a frame that has ended. -/
def State.supervisorWf (s : State) : Prop :=
  (s.sup.phase = .inHandler → s.sup.nmiDelivered = true ∧ s.sched.nmiPending = false) ∧
  (s.sup.phase ≠ .halted → s.sup.snapshot = none) ∧
  (s.sup.phase = .halted →
    ∃ f cells, s.sup.snapshot = some (("frame", f) :: cells) ∧ s.sup.frameCounter = f + 1) ∧
  (∀ f e, s.sup.lastHandlerError = some (f, e) → f < s.sup.frameCounter)

/-- The invariant of the machine. -/
structure State.Inv (s : State) : Prop where
  config : s.cfg.wf = true
  memories : s.memoriesWf
  counter : s.ppu.counterWf s.cfg
  supervisor : s.supervisorWf

/-- The row of the admission table an operation belongs to (45_frame_supervisor R291). -/
def opClass : Instr → OpClass
  | .ppuWr0Ctrl _ _ => .bus
  | .ppuWr1Mask _ _ => .bus
  | .ppuWr2Status _ _ => .bus
  | .ppuWr3Oamaddr _ _ => .bus
  | .ppuWr4Oamdata _ _ => .bus
  | .ppuWr5Scroll _ _ => .bus
  | .ppuWr6Addr _ _ => .bus
  | .ppuWr7Data _ _ => .bus
  | .ppuRd0Ctrl _ => .bus
  | .ppuRd1Mask _ => .bus
  | .ppuRd2Status _ => .bus
  | .ppuRd3Oamaddr _ => .bus
  | .ppuRd4Oamdata _ => .bus
  | .ppuRd5Scroll _ => .bus
  | .ppuRd6Addr _ => .bus
  | .ppuRd7Data _ => .bus
  | .oamdmaWr _ => .bus
  | .strobeWr _ => .bus
  | .pad0Rd => .bus
  | .pad1Rd => .bus
  | .memRd _ => .bus
  | .memWr _ _ => .bus
  | .reset => .restart
  | .ctlReset => .hostCommand
  | .setbtn _ _ => .hostCommand
  | .ppuReset => .hostCommand
  | .beginVblank => .hostCommand
  | .endVblank => .hostCommand
  | .nmiQuery => .hostCommand
  | .schedInit => .hostCommand
  | .schedTick => .hostCommand
  | .skip _ => .handlerCommand
  | .disable => .handlerCommand
  | .runframe _ _ => .hostCommand
  | .deliveredQuery => .hostCommand
  | .setTimeout _ => .hostCommand
  | .schedStat => .hostCommand
  | .supInit => .restart

/-- A BUS transaction may be issued: by the HOST in `Idle`, by the HANDLER in `InHandler` (43_io_dispatcher R251). -/
def State.busAdmitted (s : State) : Prop :=
  (s.sup.phase = .idle ∧ s.issuer = .host) ∨ (s.sup.phase = .inHandler ∧ s.issuer = .handler)

/-- A command of the HOST may be issued (45_frame_supervisor R291). -/
def State.commandAdmitted (s : State) : Prop :=
  s.sup.phase = .idle ∧ s.issuer = .host

/-- `SUP_INIT` and `RESET` may be issued (45_frame_supervisor R291). -/
def State.restartAdmitted (s : State) : Prop :=
  (s.sup.phase = .idle ∨ s.sup.phase = .halted) ∧ s.issuer = .host

/-- Every byte of the flat memory reads the same. -/
def State.sameFlat (s t : State) : Prop :=
  ∀ a, t.mem.read a = s.mem.read a

/-- Every byte of VRAM and of OAM reads the same. -/
def Ppu.sameMemories (p q : Ppu) : Prop :=
  (∀ a, q.vram.read a = p.vram.read a) ∧ ∀ a, q.oam.read a = p.oam.read a

/-- Nothing around the block but flat memory and the port's reply changes: parameters, movie, inputs, issuer. -/
def State.sameSurroundings (s t : State) : Prop :=
  t.cfg = s.cfg ∧ t.movie = s.movie ∧ t.inputs = s.inputs ∧ t.issuer = s.issuer

/-- `agent` may put BUS transactions on the port in this phase (43_io_dispatcher R251). -/
def State.ownedBy (s : State) (agent : Agent) : Prop :=
  (s.sup.phase = .idle ∧ agent = .host) ∨ (s.sup.phase = .inHandler ∧ agent = .handler)

/-- The serial read of a port. -/
def padInstr : PadPort → Instr
  | .port0 => .pad0Rd
  | .port1 => .pad1Rd

/-- How a caller that shifts left and ORs in each read bit reassembles a byte (40_controller R166). -/
def reassembleLeft (reads : List Byte) : Byte :=
  reads.foldl (fun acc b => (acc <<< 1) ||| b) 0

/-- Frames the supervisor has accepted since `SUP_INIT`: those that have ended, and the one whose HANDLER runs
(45_frame_supervisor R290). -/
def State.framesAccepted (s : State) : Nat :=
  s.sup.frameCounter + if s.sup.phase = .inHandler then 1 else 0

/-- The operation the next event asks for, if it asks for one. -/
def State.nextOperation (s : State) : Option Instr :=
  match s.inputs with
  | .port _ w :: _ => match decode s.cfg w with
    | .ok i => some i
    | .error _ => none
  | .movieFrame k :: _ => some (.runframe (getFrame s.movie k).port1 (getFrame s.movie k).port2)
  | _ => none

/-- The next event ends a handler invocation (45_frame_supervisor R283). -/
def State.nextEnds (s : State) : Bool :=
  match s.inputs with
  | .handlerReturns :: _ => true
  | .handlerFaults _ :: _ => true
  | .watchdogFires :: _ => true
  | _ => false

/-- The replies of the next `k` steps, oldest first; none where a step is refused. -/
def replies : Nat → State → Option (List Reply)
  | 0, _ => some []
  | k + 1, s =>
    match step s with
    | .next t => (replies k t).map (t.reply :: ·)
    | .fault _ => none
    | .refused _ => none

end Sys2Proof.Machine
end

