-- ==== Sys2Proof/Certificates/Slice0/Obligations.lean ====
section
/-! DEFINITION. The statements for the provers, from the numbered rules of spec/. Every statement holds for every configuration
record (00_scope R6) unless it names a constraint on it. -/

open Sys2Proof Sys2Proof.Machine

/-! ## The step and admission -/

/-- 00_scope R11, 43_io_dispatcher R241, R242: one event is one operation, decoded under the parameters and executed for its issuer;
a word placed by withFetchWord is issued by the owner of the ports. With nothing on a port the block holds its state (60_exceptions
R328, 70_reset_and_hazards R353). -/
def Obligations.StepRunsDecodedOperation : Prop :=
  (∀ (s : State) (agent : Agent) (word : PortWord) (rest : List Event) (i : Instr),
    s.inputs = .port agent word :: rest → decode s.cfg word = .ok i →
    step s = exec i { s with inputs := rest, issuer := agent }) ∧
  (∀ (s : State) (nbits w : Nat) (i : Instr), decode s.cfg (tableWord nbits w) = .ok i →
    step (s.withFetchWord nbits w) = exec i { s with issuer := portOwner s.sup.phase }) ∧
  ∀ s : State, s.inputs = [] → step s = .next s

/-- 42_movie_input R221: getFrame is the authored frame below the length and the neutral input from there on, and the HOST drives frame
k with RUNFRAME and getFrame(k). -/
def Obligations.MovieFrameDrivesRunframe : Prop :=
  (∀ (movie : List MovieFrameInput) (n : Nat) (h : n < movie.length), getFrame movie n = movie[n]) ∧
  (∀ (movie : List MovieFrameInput) (n : Nat), movie.length ≤ n → getFrame movie n = ⟨0x00, 0x00⟩) ∧
  ∀ (s : State) (k : Nat) (rest : List Event), s.inputs = .movieFrame k :: rest →
    step s = exec (.runframe (getFrame s.movie k).port1 (getFrame s.movie k).port2) { s with inputs := rest, issuer := .host }

/-- 30_encoding R130, the spec's own decision D40: a command code 0x10 to 0xFF selects no operation; the step is refused, whoever issues
it and in every phase. -/
def Obligations.ReservedCommandRefused : Prop :=
  ∀ (s : State) (agent : Agent) (op : Byte) (x : BitVec 24) (rest : List Event), 0x10 ≤ op.toNat →
    s.inputs = .port agent (.cmd (cmdWord op x)) :: rest → step s = .refused (.reservedCommand op)

/-- 45_frame_supervisor R291, the spec's own decision D39: the admission table. An operation answers a next state exactly where its row
admits it; elsewhere it is refused, under the reason of the phase (the reasons are the model's names, log 16). -/
def Obligations.AdmittedExactlyByPhase : Prop :=
  ∀ (i : Instr) (s : State),
    ((∃ t, exec i s = .next t) ↔
      match opClass i with
      | .bus => s.busAdmitted
      | .handlerCommand => s.busAdmitted
      | .hostCommand => s.commandAdmitted
      | .restart => s.restartAdmitted) ∧
    ((¬ ∃ t, exec i s = .next t) → exec i s = .refused
      (match s.sup.phase, s.issuer with
      | .idle, _ => .noHandlerRuns
      | .inHandler, .host => .hostWaits
      | .inHandler, .handler => .notForHandler
      | .halted, _ => .halted))

/-! ## PPU registers: results -/

/-- 41_ppu_registers R183, R184, R186: the whole byte is stored (at the indices of decision D8). R191, the spec's own decision D16: a write
of the status register is `ignored`, no state changes. -/
def Obligations.DirectRegisterWrites : Prop :=
  ∀ (a : Addr) (v : Byte) (s : State), s.busAdmitted →
    exec (.ppuWr0Ctrl a v) s = .next { s with ppu := { s.ppu with ctrl := v }, reply := .ok } ∧
    exec (.ppuWr1Mask a v) s = .next { s with ppu := { s.ppu with mask := v }, reply := .ok } ∧
    exec (.ppuWr3Oamaddr a v) s = .next { s with ppu := { s.ppu with oamAddr := v }, reply := .ok } ∧
    exec (.ppuWr2Status a v) s = .next { s with reply := .ignored }

/-- 41_ppu_registers R190, the spec's own decision D16 (log 11): the five reads of write-only registers return the parameter
PPU_WO_READ, 0x00 by default, and change nothing. -/
def Obligations.WriteOnlyReadsReturnParameter : Prop :=
  Config.default.ppuWoRead = 0x00 ∧
  ∀ (a : Addr) (s : State), s.busAdmitted →
    exec (.ppuRd0Ctrl a) s = .next { s with reply := .byte s.cfg.ppuWoRead } ∧
    exec (.ppuRd1Mask a) s = .next { s with reply := .byte s.cfg.ppuWoRead } ∧
    exec (.ppuRd3Oamaddr a) s = .next { s with reply := .byte s.cfg.ppuWoRead } ∧
    exec (.ppuRd5Scroll a) s = .next { s with reply := .byte s.cfg.ppuWoRead } ∧
    exec (.ppuRd6Addr a) s = .next { s with reply := .byte s.cfg.ppuWoRead }

/-- 41_ppu_registers R185, 10_state R26: the byte is sampled first; then vblank and the toggle are cleared and the counter steps while
the flag is false, setting it at the threshold (the spec's own decisions D9, D10, D15; log 26). -/
def Obligations.StatusReadSamplesThenClears : Prop :=
  ∀ (a : Addr) (s : State), s.cfg.wf = true → s.busAdmitted →
    ∃ r : Byte,
      exec (.ppuRd2Status a) s = .next
        { s with
          ppu := { s.ppu with
            vblank := false
            w := false
            statusReads := if s.ppu.sprite0Hit then s.ppu.statusReads else s.ppu.statusReads + 1
            sprite0Hit := s.ppu.sprite0Hit || decide (s.ppu.statusReads + 1 ≥ s.cfg.s0Threshold) }
          reply := .byte r } ∧
      ∀ k, k < 8 → r.getLsbD k =
        if k = s.cfg.statusVblankBit.val then s.ppu.vblank
        else if k = s.cfg.statusS0hitBit.val then s.ppu.sprite0Hit
        else false

/-- 41_ppu_registers R187, R188: the OAM data port. A write stores at oamAddr, modulo OAM_SIZE (R6; sizes other than 256 are the model's
choice, log 28), and increments oamAddr modulo 256; a read does not increment. -/
def Obligations.OamDataPort : Prop :=
  (∀ (a : Addr) (v : Byte) (s : State), s.ppu.oam.wf s.cfg.oamSize = true → s.busAdmitted →
    ∃ (oam : Memory) (next : Byte),
      exec (.ppuWr4Oamdata a v) s = .next { s with ppu := { s.ppu with oam := oam, oamAddr := next }, reply := .ok } ∧
      next.toNat = (s.ppu.oamAddr.toNat + 1) % 256 ∧
      ∀ b, oam.read b = if b = s.ppu.oamAddr.toNat % s.cfg.oamSize then v else s.ppu.oam.read b) ∧
  ∀ (a : Addr) (s : State), s.busAdmitted →
    exec (.ppuRd4Oamdata a) s = .next { s with reply := .byte (s.ppu.oam.read (s.ppu.oamAddr.toNat % s.cfg.oamSize)) }

/-- 41_ppu_registers R192: scroll writes store X, then Y, by the toggle. That there is one toggle, shared with register 6, is the spec's
own decision D14 (log 20). -/
def Obligations.ScrollWritesAlternate : Prop :=
  ∀ (a : Addr) (v : Byte) (s : State), s.busAdmitted →
    (s.ppu.w = false →
      exec (.ppuWr5Scroll a v) s = .next { s with ppu := { s.ppu with scrollX := v, w := true }, reply := .ok }) ∧
    (s.ppu.w = true →
      exec (.ppuWr5Scroll a v) s = .next { s with ppu := { s.ppu with scrollY := v, w := false }, reply := .ok })

/-- 41_ppu_registers R193: high byte first, then low byte, the other half kept; all eight bits of the high byte (the spec's own
decision D18) and one toggle shared with the scroll register (D14; log 20). -/
def Obligations.AddrWritesAlternate : Prop :=
  ∀ (a : Addr) (v : Byte) (s : State), s.busAdmitted →
    (s.ppu.w = false →
      exec (.ppuWr6Addr a v) s = .next
        { s with ppu := { s.ppu with vramAddr := v ++ s.ppu.vramAddr.extractLsb' 0 8, w := true }, reply := .ok }) ∧
    (s.ppu.w = true →
      exec (.ppuWr6Addr a v) s = .next
        { s with ppu := { s.ppu with vramAddr := s.ppu.vramAddr.extractLsb' 8 8 ++ v, w := false }, reply := .ok })

/-- 41_ppu_registers R194, R195, R198: the VRAM data port. The access is at vramAddr modulo VRAM_SIZE; afterwards vramAddr is that
address plus the increment ctrl selects, modulo VRAM_SIZE (16384, a 14-bit address, by R6; other sizes are the model's choice, log
28); a read returns the byte at the address before the increment, with no delay (the spec's own decision D17). -/
def Obligations.VramDataPort : Prop :=
  ∀ (a : Addr) (v : Byte) (s : State), s.cfg.wf = true → s.ppu.vram.wf s.cfg.vramSize = true → s.busAdmitted →
    ∃ (vram : Memory) (next : BitVec 16),
      exec (.ppuWr7Data a v) s = .next { s with ppu := { s.ppu with vram := vram, vramAddr := next }, reply := .ok } ∧
      exec (.ppuRd7Data a) s = .next
        { s with
          ppu := { s.ppu with vramAddr := next }
          reply := .byte (s.ppu.vram.read (s.ppu.vramAddr.toNat % s.cfg.vramSize)) } ∧
      (∀ b, vram.read b = if b = s.ppu.vramAddr.toNat % s.cfg.vramSize then v else s.ppu.vram.read b) ∧
      next.toNat = (s.ppu.vramAddr.toNat % s.cfg.vramSize +
        if s.ppu.ctrl.getLsbD s.cfg.ctrlIncBit.val then s.cfg.vramIncLarge else s.cfg.vramIncSmall) % s.cfg.vramSize

/-- 43_io_dispatcher R248, 41_ppu_registers R189: the DMA copies the page of flat memory into OAM from oamAddr on, modulo OAM_SIZE; flat
memory and oamAddr do not change (the spec's own decisions D7, D19). With R6's OAM_SIZE of 256 every byte of the page stays; of a
smaller OAM, which is the model's choice (log 28), the last OAM_SIZE bytes. -/
def Obligations.OamDmaCopiesPage : Prop :=
  ∀ (page : Byte) (s : State), s.cfg.wf = true → s.ppu.oam.wf s.cfg.oamSize = true → s.busAdmitted →
    ∃ oam : Memory,
      exec (.oamdmaWr page) s = .next { s with ppu := { s.ppu with oam := oam }, reply := .ok } ∧
      ∀ i, i < 256 → 256 ≤ i + s.cfg.oamSize →
        oam.read ((s.ppu.oamAddr.toNat + i) % s.cfg.oamSize) = s.mem.read (page.toNat * 256 + i)

/-- 41_ppu_registers R200, R201, R202, 45_frame_supervisor R289. -/
def Obligations.VblankCommandsNmiQueryAndTimeout : Prop :=
  ∀ (d : BitVec 24) (s : State), s.commandAdmitted →
    exec .beginVblank s = .next
      { s with ppu := { s.ppu with vblank := true, sprite0Hit := false, statusReads := 0 }, reply := .ok } ∧
    exec .endVblank s = .next
      { s with ppu := { s.ppu with vblank := false, sprite0Hit := true, ppuFrame := s.ppu.ppuFrame + 1 }, reply := .ok } ∧
    exec .nmiQuery s = .next { s with reply := .bit (s.ppu.vblank && s.ppu.ctrl.getLsbD s.cfg.ctrlNmiBit.val) } ∧
    exec (.setTimeout d) s = .next { s with sup := { s.sup with timeout := d.toNat }, reply := .ok }

/-! ## Controller, flat memory: results -/

/-- 40_controller R160: only ports 0 and 1 store; any other port is `ignored`. Of the two, those below N_PORTS exist (R6: both; a
smaller number is the model's choice, log 28). -/
def Obligations.SetButtonsStoresOrIgnores : Prop :=
  ∀ (port mask : Byte) (s : State), s.commandAdmitted →
    (port.toNat = 0 → 0 < s.cfg.nPorts → exec (.setbtn port mask) s = .next
      { s with ctl := { s.ctl with buttonState := { s.ctl.buttonState with port0 := mask } }, reply := .ok }) ∧
    (port.toNat = 1 → 1 < s.cfg.nPorts → exec (.setbtn port mask) s = .next
      { s with ctl := { s.ctl with buttonState := { s.ctl.buttonState with port1 := mask } }, reply := .ok }) ∧
    (2 ≤ port.toNat ∨ s.cfg.nPorts ≤ port.toNat → exec (.setbtn port mask) s = .next { s with reply := .ignored })

/-- 40_controller R161: bit 0 becomes the strobe; a change of it, either edge, copies the buttons into both shift registers (the
spec's own decision D12 on conflict C3; log 20). -/
def Obligations.StrobeWriteLatchesOnEdges : Prop :=
  ∀ (value : Byte) (s : State), s.busAdmitted →
    exec (.strobeWr value) s = .next
      { s with
        ctl := { s.ctl with
          strobeState := value.getLsbD 0
          shiftRegister := if s.ctl.strobeState = value.getLsbD 0 then s.ctl.shiftRegister else s.ctl.buttonState }
        reply := .ok }

/-- 40_controller R162, either port. Strobe high: both registers re-latched, the live bit 0 returned. Strobe low: bit 0 returned, that
register shifted right with CTL_FILL_BIT into bit 7, the other kept (the spec's own decisions D11 to D13 on conflicts C1, C2; logs 20,
26). -/
def Obligations.PadReadLatchesOrShifts : Prop :=
  ∀ (p : PadPort) (s : State), s.busAdmitted →
    (s.ctl.strobeState = true →
      exec (padInstr p) s = .next
        { s with
          ctl := { s.ctl with shiftRegister := s.ctl.buttonState }
          reply := .byte (if (s.ctl.buttonState.get p).getLsbD 0 then 0x01 else 0x00) }) ∧
    (s.ctl.strobeState = false → ∃ shifted : Byte,
      exec (padInstr p) s = .next
        { s with
          ctl := { s.ctl with shiftRegister := s.ctl.shiftRegister.set p shifted }
          reply := .byte (if (s.ctl.shiftRegister.get p).getLsbD 0 then 0x01 else 0x00) } ∧
      shifted.getLsbD 7 = s.cfg.ctlFillBit ∧
      ∀ k, k < 7 → shifted.getLsbD k = (s.ctl.shiftRegister.get p).getLsbD (k + 1))

/-- 43_io_dispatcher R249, R250: the pass-through to flat memory. -/
def Obligations.FlatMemoryPassThrough : Prop :=
  ∀ (a : Addr) (v : Byte) (s : State), s.mem.wf 65536 = true → s.busAdmitted →
    exec (.memRd a) s = .next { s with reply := .byte (s.mem.read a.toNat) } ∧
    ∃ mem : Memory, exec (.memWr a v) s = .next { s with mem := mem, reply := .ok } ∧
      ∀ b, mem.read b = if b = a.toNat then v else s.mem.read b

/-! ## Scheduler: results -/

/-- 44_nmi_scheduler R261 to R264: the cells are read once; the first call tests no transition; a later 0 to 1 task step sets the count
by the mode; then a due interrupt is suppressed while the count is positive, else marked pending (the spec's own decisions D22, D24,
D28). -/
def Obligations.SchedTickTransitionThenDue : Prop :=
  ∀ s : State, s.commandAdmitted →
    let task := s.mem.read s.cfg.aTask.toNat
    let mode := s.mem.read s.cfg.aMode.toNat
    let count :=
      if s.sched.isFirstFrame = false ∧ s.sched.prevTask = 0 ∧ task = 1 then
        (if mode = 0 then s.cfg.skipsMode0 else if mode = 1 then s.cfg.skipsMode1 else s.sched.pendingSkips)
      else s.sched.pendingSkips
    let due := s.ppu.vblank && s.ppu.ctrl.getLsbD s.cfg.ctrlNmiBit.val
    exec .schedTick s = .next
      { s with
        sched := {
          pendingSkips := if due = true then count - 1 else count
          prevTask := task
          prevMode := mode
          isFirstFrame := false
          nmiPending := s.sched.nmiPending || (due && decide (count = 0))
          skippedCount := if due = true ∧ 0 < count then s.sched.skippedCount + 1 else s.sched.skippedCount }
        reply := .ok }

/-- SKIP, DISABLE, SCHED_STAT and DELIVERED_QUERY (44_nmi_scheduler R265 to R267, 45_frame_supervisor R288, as the spec's own decisions
D25, D26, D3, D42 read the source). -/
def Obligations.SkipDisableAndQueries : Prop :=
  (∀ (n : BitVec 24) (s : State), s.busAdmitted →
    exec (.skip n) s = .next
      { s with sched := { s.sched with pendingSkips := s.sched.pendingSkips + n.toNat }, reply := .ok } ∧
    exec .disable s = .next
      { s with
        sched := { s.sched with
          pendingSkips := 0
          prevTask := s.mem.read s.cfg.aTask.toNat
          prevMode := s.mem.read s.cfg.aMode.toNat }
        reply := .ok }) ∧
  ∀ s : State, s.commandAdmitted →
    exec .schedStat s = .next { s with reply := .stat s.sched.pendingSkips s.sched.skippedCount } ∧
    exec .deliveredQuery s = .next { s with reply := .bit s.sup.nmiDelivered }

/-- 44_nmi_scheduler R268: across a tick the sum of pending and skipped changes only where the transition assignment fires. -/
def Obligations.TickKeepsSkipSum : Prop :=
  ∀ s t : State, exec .schedTick s = .next t →
    ¬ (s.sched.isFirstFrame = false ∧ s.sched.prevTask = 0 ∧ s.mem.read s.cfg.aTask.toNat = 1 ∧
        (s.mem.read s.cfg.aMode.toNat = 0 ∨ s.mem.read s.cfg.aMode.toNat = 1)) →
    t.sched.pendingSkips + t.sched.skippedCount = s.sched.pendingSkips + s.sched.skippedCount

/-! ## Supervisor, reset, exceptions: results -/

/-- 45_frame_supervisor R282 and 60_exceptions R319: RUNFRAME clears nmiDelivered, sets both buttons, ends and begins the vertical blank
and ticks the scheduler; then it enters the HANDLER if an interrupt is pending, and else ends the frame with Done(false). That the
HANDLER's run is a sequence of later steps is the model's reading of R11 (log 24); that a port beyond N_PORTS keeps its mask is the
model's choice (log 28). -/
def Obligations.RunframeSequence : Prop :=
  ∀ (p1 p2 : Byte) (s : State), s.commandAdmitted →
    ∃ v, exec .schedTick
        { s with
          ctl := { s.ctl with buttonState := ⟨if 0 < s.cfg.nPorts then p1 else s.ctl.buttonState.port0,
                                              if 1 < s.cfg.nPorts then p2 else s.ctl.buttonState.port1⟩ }
          ppu := { s.ppu with vblank := true, sprite0Hit := false, statusReads := 0, ppuFrame := s.ppu.ppuFrame + 1 }
          sup := { s.sup with nmiDelivered := false } } = .next v ∧
      (v.sched.nmiPending = true → exec (.runframe p1 p2) s = .next
        { v with
          sched := { v.sched with nmiPending := false }
          sup := { v.sup with nmiDelivered := true, phase := .inHandler }
          reply := .invoke }) ∧
      (v.sched.nmiPending = false → exec (.runframe p1 p2) s = .next
        { v with sup := { v.sup with frameCounter := s.sup.frameCounter + 1 }, reply := .done false })

/-- 45_frame_supervisor R284: the normal return. -/
def Obligations.HandlerReturnFinishesFrame : Prop :=
  ∀ (s : State) (rest : List Event), s.supervisorWf → s.sup.phase = .inHandler → s.inputs = .handlerReturns :: rest →
    step s = .next
      { s with
        inputs := rest
        sup := { s.sup with phase := .idle, frameCounter := s.sup.frameCounter + 1 }
        reply := .done true }

/-- 45_frame_supervisor R285, 60_exceptions R312: the handler's fault is recorded with the frame number and raised unchanged; the next
phase is the spec's own decision D32, the number D30. -/
def Obligations.HandlerFaultRecordedAndRaised : Prop :=
  ∀ (s : State) (rest : List Event) (e : ErrorValue), s.sup.phase = .inHandler → s.inputs = .handlerFaults e :: rest →
    step s = .next
      { s with
        inputs := rest
        sup := { s.sup with
          lastHandlerError := some (s.sup.frameCounter, e)
          phase := .idle
          frameCounter := s.sup.frameCounter + 1 }
        reply := .raisedFault s.sup.frameCounter e }

/-- 45_frame_supervisor R286, R287: the timeout records the snapshot, whose first pair is the frame number and whose further pairs are
the caller's cells read from flat memory, halts the block and raises (the spec's own decisions D30, D31, D34). -/
def Obligations.HandlerTimeoutSnapshotsAndHalts : Prop :=
  ∀ (s : State) (rest : List Event), s.sup.phase = .inHandler → s.inputs = .watchdogFires :: rest →
    ∃ snap : Snapshot,
      step s = .next
        { s with
          inputs := rest
          sup := { s.sup with snapshot := some snap, phase := .halted, frameCounter := s.sup.frameCounter + 1 }
          reply := .raisedTimeout snap } ∧
      snap.length = s.cfg.snapshotCells.length + 1 ∧
      snap[0]? = some ("frame", s.sup.frameCounter) ∧
      ∀ (k : Nat) (label : String) (a : Addr), s.cfg.snapshotCells[k]? = some (label, a) →
        snap[k + 1]? = some (label, (s.mem.read a.toNat).toNat)

/-- 40_controller R163, 41_ppu_registers R203: the device resets. -/
def Obligations.DeviceResets : Prop :=
  ∀ s : State, s.commandAdmitted →
    exec .ctlReset s = .next
      { s with ctl := { buttonState := ⟨0, 0⟩, shiftRegister := ⟨0, 0⟩, strobeState := false }, reply := .ok } ∧
    ∃ vram oam : Memory,
      exec .ppuReset s = .next
        { s with
          ppu := { ctrl := 0, mask := 0, oamAddr := 0, scrollX := 0, scrollY := 0, vramAddr := 0, w := false, vblank := false
                   sprite0Hit := false, statusReads := 0, ppuFrame := 0, vram := vram, oam := oam }
          reply := .ok } ∧
      (∀ a, vram.read a = 0x00) ∧ ∀ a, oam.read a = 0x00

/-- SCHED_INIT and SUP_INIT (44_nmi_scheduler R260, 45_frame_supervisor R280, with the spec's own decisions D23, D27, D35). -/
def Obligations.SchedulerAndSupervisorInit : Prop :=
  ∀ s : State,
    (s.commandAdmitted →
      exec .schedInit s = .next
        { s with
          sched := { pendingSkips := s.cfg.warmupSkips, prevTask := 0, prevMode := 0, isFirstFrame := true, nmiPending := false
                     skippedCount := 0 }
          reply := .ok }) ∧
    (s.restartAdmitted →
      exec .supInit s = .next
        { s with
          sup := { frameCounter := 0, timeout := s.cfg.watchdogTimeout, phase := .idle, nmiDelivered := false, snapshot := none
                   lastHandlerError := none }
          reply := .ok })

/-- 70_reset_and_hazards R350, the spec's own decision D35: RESET is the four component resets in their order, as one step; and it is admitted in `Halted` too,
where only its supervisor part could be issued alone. -/
def Obligations.ResetIsFourComponentResets : Prop :=
  (∀ s : State, s.commandAdmitted → ∃ s1 s2 s3 t,
    exec .ctlReset s = .next s1 ∧ exec .ppuReset s1 = .next s2 ∧ exec .schedInit s2 = .next s3 ∧ exec .supInit s3 = .next t ∧
    exec .reset s = .next t) ∧
  ∀ s : State, s.restartAdmitted → ∃ t, exec .reset s = .next t ∧
    t.ctl = State.reset.ctl ∧ t.ppu = State.reset.ppu ∧ t.sched = Sched.init s.cfg ∧ t.sup = Sup.init s.cfg ∧
    s.sameFlat t ∧ s.sameSurroundings t

/-- 70_reset_and_hazards R353: what reset leaves, under the default parameters; nothing runs by itself; and R351, the spec's own
decision D35 (log 8): the state at creation equals the state after RESET. The fields no reset touches keep the values the model chose for them (logs 1 to 6, 18). -/
def Obligations.ResetLeavesStatedValues : Prop :=
  State.reset.ppu.ctrl = 0x00 ∧ State.reset.ppu.vblank = false ∧ State.reset.sched.nmiPending = false ∧
  State.reset.sched.pendingSkips = 3 ∧ State.reset.ctl.strobeState = false ∧ State.reset.ppu.w = false ∧
  State.reset.sup.phase = .idle ∧ State.reset.sup.frameCounter = 0 ∧
  (∀ a, State.reset.ppu.vram.read a = 0x00) ∧ (∀ a, State.reset.ppu.oam.read a = 0x00) ∧
  step State.reset = .next State.reset ∧ exec .reset State.reset = .next State.reset

/-! ## Frames -/

/-- 10_state R24 to R31, 41_ppu_registers R183, R184, R186, R191 to R193: what writes to indices 0, 1, 2, 3, 5, 6 leave unchanged.
That the write of the status register changes nothing (R191) is the spec's own decision D16, that one toggle serves indices 5 and 6
decision D14 (log 20). -/
def Obligations.FrameOfRegisterWrites : Prop :=
  ∀ (a : Addr) (v : Byte) (i : Instr) (s t : State),
    (i = .ppuWr0Ctrl a v ∨ i = .ppuWr1Mask a v ∨ i = .ppuWr2Status a v ∨ i = .ppuWr3Oamaddr a v ∨ i = .ppuWr5Scroll a v ∨
      i = .ppuWr6Addr a v) →
    exec i s = .next t →
    t.ctl = s.ctl ∧ t.sched = s.sched ∧ t.sup = s.sup ∧ s.sameFlat t ∧ s.sameSurroundings t ∧ s.ppu.sameMemories t.ppu ∧
    t.ppu.vblank = s.ppu.vblank ∧ t.ppu.sprite0Hit = s.ppu.sprite0Hit ∧ t.ppu.statusReads = s.ppu.statusReads ∧
    t.ppu.ppuFrame = s.ppu.ppuFrame ∧
    (i ≠ .ppuWr0Ctrl a v → t.ppu.ctrl = s.ppu.ctrl) ∧
    (i ≠ .ppuWr1Mask a v → t.ppu.mask = s.ppu.mask) ∧
    (i ≠ .ppuWr3Oamaddr a v → t.ppu.oamAddr = s.ppu.oamAddr) ∧
    (i ≠ .ppuWr5Scroll a v → t.ppu.scrollX = s.ppu.scrollX ∧ t.ppu.scrollY = s.ppu.scrollY) ∧
    (i = .ppuWr5Scroll a v → (s.ppu.w = true → t.ppu.scrollX = s.ppu.scrollX) ∧ (s.ppu.w = false → t.ppu.scrollY = s.ppu.scrollY)) ∧
    (i ≠ .ppuWr6Addr a v → t.ppu.vramAddr = s.ppu.vramAddr) ∧
    (i ≠ .ppuWr5Scroll a v → i ≠ .ppuWr6Addr a v → t.ppu.w = s.ppu.w)

/-- 41_ppu_registers R187, R189, R194, 43_io_dispatcher R248: what the storing forms of the PPU (indices 4 and 7, the DMA) leave
unchanged; the byte stored to is at oamAddr modulo OAM_SIZE, or at vramAddr under VRAM_MASK (sizes other than R6's: log
28). That the DMA keeps oamAddr (R189) is the spec's own decision D19. -/
def Obligations.FrameOfPpuStores : Prop :=
  ∀ (a : Addr) (v : Byte) (i : Instr) (s t : State),
    (i = .ppuWr4Oamdata a v ∨ i = .ppuWr7Data a v ∨ i = .oamdmaWr v) → exec i s = .next t →
    t.ctl = s.ctl ∧ t.sched = s.sched ∧ t.sup = s.sup ∧ s.sameFlat t ∧ s.sameSurroundings t ∧
    t.ppu.ctrl = s.ppu.ctrl ∧ t.ppu.mask = s.ppu.mask ∧ t.ppu.scrollX = s.ppu.scrollX ∧ t.ppu.scrollY = s.ppu.scrollY ∧
    t.ppu.w = s.ppu.w ∧ t.ppu.vblank = s.ppu.vblank ∧ t.ppu.sprite0Hit = s.ppu.sprite0Hit ∧
    t.ppu.statusReads = s.ppu.statusReads ∧ t.ppu.ppuFrame = s.ppu.ppuFrame ∧
    (i ≠ .ppuWr4Oamdata a v → t.ppu.oamAddr = s.ppu.oamAddr) ∧
    (i ≠ .ppuWr7Data a v → t.ppu.vramAddr = s.ppu.vramAddr) ∧
    (i = .ppuWr4Oamdata a v → ∀ b, b ≠ oamIndex s.cfg s.ppu.oamAddr → t.ppu.oam.read b = s.ppu.oam.read b) ∧
    (i = .ppuWr7Data a v → ∀ b, t.ppu.oam.read b = s.ppu.oam.read b) ∧
    (i = .ppuWr7Data a v → ∀ b, b ≠ (vramIndex s.cfg s.ppu.vramAddr).toNat → t.ppu.vram.read b = s.ppu.vram.read b) ∧
    (i ≠ .ppuWr7Data a v → ∀ b, t.ppu.vram.read b = s.ppu.vram.read b)

/-- 41_ppu_registers R185, R188, R190, R195: what the eight reads leave unchanged; no read stores a byte anywhere. That the
five reads of write-only registers change nothing (R190) is the spec's own decision D16 (log 11). -/
def Obligations.FrameOfPpuReads : Prop :=
  ∀ (a : Addr) (i : Instr) (s t : State),
    (i = .ppuRd0Ctrl a ∨ i = .ppuRd1Mask a ∨ i = .ppuRd2Status a ∨ i = .ppuRd3Oamaddr a ∨ i = .ppuRd4Oamdata a ∨
      i = .ppuRd5Scroll a ∨ i = .ppuRd6Addr a ∨ i = .ppuRd7Data a) →
    exec i s = .next t →
    t.ctl = s.ctl ∧ t.sched = s.sched ∧ t.sup = s.sup ∧ s.sameFlat t ∧ s.sameSurroundings t ∧ s.ppu.sameMemories t.ppu ∧
    t.ppu.ctrl = s.ppu.ctrl ∧ t.ppu.mask = s.ppu.mask ∧ t.ppu.oamAddr = s.ppu.oamAddr ∧ t.ppu.scrollX = s.ppu.scrollX ∧
    t.ppu.scrollY = s.ppu.scrollY ∧ t.ppu.ppuFrame = s.ppu.ppuFrame ∧
    (i ≠ .ppuRd7Data a → t.ppu.vramAddr = s.ppu.vramAddr) ∧
    (i ≠ .ppuRd2Status a → t.ppu.w = s.ppu.w ∧ t.ppu.vblank = s.ppu.vblank ∧ t.ppu.sprite0Hit = s.ppu.sprite0Hit ∧
      t.ppu.statusReads = s.ppu.statusReads)

/-- 40_controller R160 to R163: what the controller's operations leave unchanged: every other component and, inside the device, the
buttons but for SETBTN and CTL_RESET, the strobe but for STROBE_WR and CTL_RESET, and with the strobe low the other port's register. -/
def Obligations.FrameOfControllerOperations : Prop :=
  ∀ (value port mask : Byte) (i : Instr) (s t : State),
    (i = .strobeWr value ∨ i = .pad0Rd ∨ i = .pad1Rd ∨ i = .setbtn port mask ∨ i = .ctlReset) → exec i s = .next t →
    t.ppu = s.ppu ∧ t.sched = s.sched ∧ t.sup = s.sup ∧ s.sameFlat t ∧ s.sameSurroundings t ∧
    (i ≠ .setbtn port mask → i ≠ .ctlReset → t.ctl.buttonState = s.ctl.buttonState) ∧
    (i ≠ .strobeWr value → i ≠ .ctlReset → t.ctl.strobeState = s.ctl.strobeState) ∧
    (i = .setbtn port mask → t.ctl.shiftRegister = s.ctl.shiftRegister) ∧
    (i = .setbtn port mask → port ≠ 0 → t.ctl.buttonState.port0 = s.ctl.buttonState.port0) ∧
    (i = .setbtn port mask → port ≠ 1 → t.ctl.buttonState.port1 = s.ctl.buttonState.port1) ∧
    (i = .pad0Rd → s.ctl.strobeState = false → t.ctl.shiftRegister.port1 = s.ctl.shiftRegister.port1) ∧
    (i = .pad1Rd → s.ctl.strobeState = false → t.ctl.shiftRegister.port0 = s.ctl.shiftRegister.port0)

/-- 43_io_dispatcher R249, R250, 20_memory R88: what the pass-through leaves unchanged; the byte stored to is at the BUS address. -/
def Obligations.FrameOfPassThrough : Prop :=
  ∀ (a : Addr) (v : Byte) (i : Instr) (s t : State), (i = .memRd a ∨ i = .memWr a v) → exec i s = .next t →
    t.ctl = s.ctl ∧ t.ppu = s.ppu ∧ t.sched = s.sched ∧ t.sup = s.sup ∧ s.sameSurroundings t ∧
    (∀ b, b ≠ a.toNat → t.mem.read b = s.mem.read b) ∧ (i = .memRd a → s.sameFlat t)

/-- 44_nmi_scheduler R260 to R267: what the scheduler's operations leave unchanged (the spec's own decisions D3, D26, D28). -/
def Obligations.FrameOfSchedulerOperations : Prop :=
  ∀ (n : BitVec 24) (i : Instr) (s t : State),
    (i = .schedInit ∨ i = .schedTick ∨ i = .skip n ∨ i = .disable ∨ i = .schedStat) → exec i s = .next t →
    t.ctl = s.ctl ∧ t.ppu = s.ppu ∧ t.sup = s.sup ∧ s.sameFlat t ∧ s.sameSurroundings t ∧
    (i = .schedStat → t.sched = s.sched) ∧
    (i = .skip n → t.sched.prevTask = s.sched.prevTask ∧ t.sched.prevMode = s.sched.prevMode) ∧
    (i = .skip n ∨ i = .disable → t.sched.isFirstFrame = s.sched.isFirstFrame ∧ t.sched.nmiPending = s.sched.nmiPending ∧
      t.sched.skippedCount = s.sched.skippedCount) ∧
    (i = .schedTick → s.sched.nmiPending = true → t.sched.nmiPending = true)

/-- 41_ppu_registers R200 to R202, 45_frame_supervisor R288, R289: what the vertical-blank commands, the queries and SET_TIMEOUT leave
unchanged. -/
def Obligations.FrameOfVblankCommandsAndQueries : Prop :=
  ∀ (d : BitVec 24) (i : Instr) (s t : State),
    (i = .beginVblank ∨ i = .endVblank ∨ i = .nmiQuery ∨ i = .deliveredQuery ∨ i = .setTimeout d) → exec i s = .next t →
    t.ctl = s.ctl ∧ t.sched = s.sched ∧ s.sameFlat t ∧ s.sameSurroundings t ∧ s.ppu.sameMemories t.ppu ∧
    (i ≠ .setTimeout d → t.sup = s.sup) ∧
    (i = .setTimeout d → t.sup.frameCounter = s.sup.frameCounter ∧ t.sup.phase = s.sup.phase ∧
      t.sup.nmiDelivered = s.sup.nmiDelivered ∧ t.sup.snapshot = s.sup.snapshot ∧
      t.sup.lastHandlerError = s.sup.lastHandlerError) ∧
    (i ≠ .beginVblank → i ≠ .endVblank → t.ppu = s.ppu) ∧
    t.ppu.ctrl = s.ppu.ctrl ∧ t.ppu.mask = s.ppu.mask ∧ t.ppu.oamAddr = s.ppu.oamAddr ∧ t.ppu.scrollX = s.ppu.scrollX ∧
    t.ppu.scrollY = s.ppu.scrollY ∧ t.ppu.vramAddr = s.ppu.vramAddr ∧ t.ppu.w = s.ppu.w ∧
    (i ≠ .endVblank → t.ppu.ppuFrame = s.ppu.ppuFrame) ∧ (i ≠ .beginVblank → t.ppu.statusReads = s.ppu.statusReads)

/-- 70_reset_and_hazards R352: each reset touches its own component alone, and no reset touches flat memory, the parameters or the
movie. -/
def Obligations.FrameOfResets : Prop :=
  ∀ (i : Instr) (s t : State),
    (i = .reset ∨ i = .ctlReset ∨ i = .ppuReset ∨ i = .schedInit ∨ i = .supInit) → exec i s = .next t →
    s.sameFlat t ∧ s.sameSurroundings t ∧
    (i ≠ .reset → i ≠ .ctlReset → t.ctl = s.ctl) ∧ (i ≠ .reset → i ≠ .ppuReset → t.ppu = s.ppu) ∧
    (i ≠ .reset → i ≠ .schedInit → t.sched = s.sched) ∧ (i ≠ .reset → i ≠ .supInit → t.sup = s.sup) ∧
    (i = .reset ∨ i = .supInit → t.sup.timeout = s.cfg.watchdogTimeout)

/-- 45_frame_supervisor R282: what the step of RUNFRAME leaves unchanged; it stores no byte. -/
def Obligations.FrameOfRunframe : Prop :=
  ∀ (p1 p2 : Byte) (s t : State), exec (.runframe p1 p2) s = .next t →
    s.sameFlat t ∧ s.sameSurroundings t ∧ s.ppu.sameMemories t.ppu ∧
    t.ctl.shiftRegister = s.ctl.shiftRegister ∧ t.ctl.strobeState = s.ctl.strobeState ∧
    t.ppu.ctrl = s.ppu.ctrl ∧ t.ppu.mask = s.ppu.mask ∧ t.ppu.oamAddr = s.ppu.oamAddr ∧ t.ppu.scrollX = s.ppu.scrollX ∧
    t.ppu.scrollY = s.ppu.scrollY ∧ t.ppu.vramAddr = s.ppu.vramAddr ∧ t.ppu.w = s.ppu.w ∧
    t.sup.timeout = s.sup.timeout ∧ t.sup.snapshot = s.sup.snapshot ∧ t.sup.lastHandlerError = s.sup.lastHandlerError

/-! ## Encoding -/

/-- 30_encoding R129, R133 and 95_test_vectors P1, P2, P4: words the spec writes out. -/
def Obligations.SpecWordsDecode : Prop :=
  decode Config.default (.bus 0x1401601) = .ok (.strobeWr 0x01) ∧
  decode Config.default (.bus 0x0200200) = .ok (.ppuRd2Status 0x2002) ∧
  decode Config.default (.bus 0x0401600) = .ok .pad0Rd ∧
  decode Config.default (.bus 0x0401700) = .ok .pad1Rd ∧
  decode Config.default (.bus 0x12006C0) = .ok (.ppuWr6Addr 0x2006 0xC0) ∧
  decode Config.default (.bus 0x1401402) = .ok (.oamdmaWr 0x02) ∧
  decode Config.default (.bus 0x1001080) = .ok (.memWr 0x0010 0x80) ∧
  decode Config.default (.bus 0x0401400) = .ok (.memRd 0x4014) ∧
  decode Config.default (.cmd 0x02000102) = .ok (.setbtn 0x01 0x02) ∧
  decode Config.default (.cmd 0x0B008000) = .ok (.runframe 0x80 0x00) ∧
  decode Config.default (.cmd 0x09000001) = .ok (.skip 1) ∧
  decode Config.default (.cmd 0x10000000) = .error (.reservedCommand 0x10)

/-- 30_encoding R120, R122, R123: decoding the encoding of a well-formed operation gives it back, with every operand. -/
def Obligations.DecodeEncodeRoundTrip : Prop :=
  ∀ (cfg : Config) (i : Instr), wellFormed cfg i = true → decode cfg (encode cfg i) = .ok i

/-- 30_encoding R120, R122, R131: every BUS word decodes, to a well-formed operation whose encoding has the same direction and address,
and for a write the same byte; a command that decodes is well-formed and keeps its code. -/
def Obligations.DecodeIsOntoWellFormed : Prop :=
  (∀ (cfg : Config) (t : BitVec 25), ∃ (i : Instr) (u : BitVec 25),
    decode cfg (.bus t) = .ok i ∧ wellFormed cfg i = true ∧ encode cfg i = .bus u ∧
    u.extractLsb' 8 17 = t.extractLsb' 8 17 ∧ (t.getLsbD 24 = true → u = t)) ∧
  ∀ (cfg : Config) (c : BitVec 32) (i : Instr), decode cfg (.cmd c) = .ok i →
    wellFormed cfg i = true ∧ ∃ d : BitVec 32, encode cfg i = .cmd d ∧ d.extractLsb' 24 8 = c.extractLsb' 24 8

/-- 30_encoding R129, R131, 43_io_dispatcher R240: under the default parameters the decoder is the first match of the operation table's
BUS rows, for every word. -/
def Obligations.BusDecodeIsFirstTableMatch : Prop :=
  ∀ t : BitVec 25, busRowOf t = some (mnemonicOf (decodeBus Config.default t))

/-- 20_memory R90, 43_io_dispatcher R243: two addresses in the windows with the same low three bits reach the same register: the same
step, in either direction. And 10_state R38, 00_scope R6: an address in the windows whose low three bits are a register's index
selects that register's write or read, for every assignment of the eight indices (0, 1, 3 by decision D8 and 2, 4 to 7 by the source
in R6; others are log 28's). -/
def Obligations.MirrorsReachSameRegister : Prop :=
  (∀ (s : State) (agent : Agent) (rw : Bool) (a b : Addr) (v : Byte) (rest : List Event),
    inPpuWindow s.cfg a = true → inPpuWindow s.cfg b = true → a.extractLsb' 0 3 = b.extractLsb' 0 3 →
    step { s with inputs := .port agent (.bus (busWord rw a v)) :: rest } =
      step { s with inputs := .port agent (.bus (busWord rw b v)) :: rest }) ∧
  ∀ (cfg : Config) (a : Addr) (v : Byte), cfg.wf = true → inPpuWindow cfg a = true →
    (a.extractLsb' 0 3 = cfg.idxCtrl → decode cfg (.bus (busWord true a v)) = .ok (.ppuWr0Ctrl a v) ∧
      decode cfg (.bus (busWord false a v)) = .ok (.ppuRd0Ctrl a)) ∧
    (a.extractLsb' 0 3 = cfg.idxMask → decode cfg (.bus (busWord true a v)) = .ok (.ppuWr1Mask a v) ∧
      decode cfg (.bus (busWord false a v)) = .ok (.ppuRd1Mask a)) ∧
    (a.extractLsb' 0 3 = cfg.idxStatus → decode cfg (.bus (busWord true a v)) = .ok (.ppuWr2Status a v) ∧
      decode cfg (.bus (busWord false a v)) = .ok (.ppuRd2Status a)) ∧
    (a.extractLsb' 0 3 = cfg.idxOamAddr → decode cfg (.bus (busWord true a v)) = .ok (.ppuWr3Oamaddr a v) ∧
      decode cfg (.bus (busWord false a v)) = .ok (.ppuRd3Oamaddr a)) ∧
    (a.extractLsb' 0 3 = cfg.idxOamData → decode cfg (.bus (busWord true a v)) = .ok (.ppuWr4Oamdata a v) ∧
      decode cfg (.bus (busWord false a v)) = .ok (.ppuRd4Oamdata a)) ∧
    (a.extractLsb' 0 3 = cfg.idxScroll → decode cfg (.bus (busWord true a v)) = .ok (.ppuWr5Scroll a v) ∧
      decode cfg (.bus (busWord false a v)) = .ok (.ppuRd5Scroll a)) ∧
    (a.extractLsb' 0 3 = cfg.idxAddr → decode cfg (.bus (busWord true a v)) = .ok (.ppuWr6Addr a v) ∧
      decode cfg (.bus (busWord false a v)) = .ok (.ppuRd6Addr a)) ∧
    (a.extractLsb' 0 3 = cfg.idxData → decode cfg (.bus (busWord true a v)) = .ok (.ppuWr7Data a v) ∧
      decode cfg (.bus (busWord false a v)) = .ok (.ppuRd7Data a))

/-! ## The whole machine -/

/-- The invariant (10_state R34, R52 to R55, 20_memory R80): every step keeps it, from every state that has it. -/
def Obligations.StepKeepsInvariant : Prop :=
  ∀ s t : State, s.Inv → step s = .next t → t.Inv

/-- The invariant holds at reset. -/
def Obligations.ResetHasInvariant : Prop :=
  State.reset.Inv

/-- 43_io_dispatcher R240, 20_memory R96: no step changes the parameters, so the decoding of any word is the same after any step; nor
the movie (70_reset_and_hazards R352). -/
def Obligations.NoStepChangesDecoding : Prop :=
  ∀ s t : State, step s = .next t → t.cfg = s.cfg ∧ t.movie = s.movie ∧ ∀ word, decode t.cfg word = decode s.cfg word

/-- 20_memory R88, R98, 10_state R57: a byte of flat memory changes only in a step whose operation is MEM_WR of that address. A HANDLER
that bypasses DISP (43_io_dispatcher R251, decision D43) is outside the model: of such a handler this says nothing (log 22). -/
def Obligations.OnlyMemWrChangesFlatMemory : Prop :=
  ∀ (s t : State) (b : Nat), step s = .next t → t.mem.read b ≠ s.mem.read b →
    ∃ (a : Addr) (v : Byte), s.nextOperation = some (.memWr a v) ∧ b = a.toNat

/-- 10_state R40: pendingSkips is written only by SCHED_INIT (and RESET), the tick (and RUNFRAME), SKIP and DISABLE. -/
def Obligations.PendingSkipsWriters : Prop :=
  ∀ s t : State, step s = .next t → t.sched.pendingSkips ≠ s.sched.pendingSkips →
    ∃ i, s.nextOperation = some i ∧
      (i = .schedInit ∨ i = .reset ∨ i = .schedTick ∨ i = .disable ∨ (∃ n, i = .skip n) ∨ ∃ p1 p2, i = .runframe p1 p2)

/-- 60_exceptions R320, R322, 45_frame_supervisor R292: while the HANDLER runs only the three ends of its invocation change the phase
or the frame counter; so no second interrupt is delivered. That an end steps the frame counter by one is R284, R285, R286 (R290);
that it does on the fault and timeout paths, at the end, is the spec's own decision D30. Outside `InHandler` an end of an invocation
is no step (that it is a refusal is the model's choice, log 17). -/
def Obligations.OnlyEndingsLeaveHandler : Prop :=
  (∀ s : State, s.sup.phase ≠ .inHandler → s.nextEnds = true → ∃ r, step s = .refused r) ∧
  ∀ s t : State, s.sup.phase = .inHandler → step s = .next t →
    (s.nextEnds = false → t.sup.phase = .inHandler ∧ t.sup.frameCounter = s.sup.frameCounter ∧
      t.sup.nmiDelivered = s.sup.nmiDelivered ∧ t.sched.nmiPending = s.sched.nmiPending) ∧
    (s.nextEnds = true → t.sup.phase ≠ .inHandler ∧ t.sup.frameCounter = s.sup.frameCounter + 1)

/-- 45_frame_supervisor R280, R291, R292: in `Halted` a step that takes an event is the HOST's RESET or SUP_INIT, and it ends in
`Idle`. -/
def Obligations.OnlyRestartLeavesHalted : Prop :=
  ∀ s t : State, s.sup.phase = .halted → s.inputs ≠ [] → step s = .next t →
    (s.nextOperation = some .reset ∨ s.nextOperation = some .supInit) ∧ t.issuer = .host ∧ t.sup.phase = .idle ∧
    t.sup.frameCounter = 0

/-- 60_exceptions R310: the two exceptions are raised only after the HANDLER was invoked, by the end of its invocation. -/
def Obligations.OnlyHandlerEndsRaise : Prop :=
  ∀ s t : State, s.inputs ≠ [] → step s = .next t →
    ((∃ f e, t.reply = .raisedFault f e) ∨ ∃ snap, t.reply = .raisedTimeout snap) →
    s.sup.phase = .inHandler ∧ s.nextEnds = true

/-- 45_frame_supervisor R290: the frames accepted since SUP_INIT: one more at each accepted RUNFRAME, none after SUP_INIT or RESET, the
same at every other step, whatever the outcome of a frame. -/
def Obligations.FramesAcceptedLaw : Prop :=
  ∀ s t : State, step s = .next t →
    ((∃ p1 p2, s.nextOperation = some (.runframe p1 p2)) → t.framesAccepted = s.framesAccepted + 1) ∧
    (s.nextOperation = some .reset ∨ s.nextOperation = some .supInit → t.framesAccepted = 0) ∧
    ((∀ p1 p2, s.nextOperation ≠ some (.runframe p1 p2)) → s.nextOperation ≠ some .reset → s.nextOperation ≠ some .supInit →
      t.framesAccepted = s.framesAccepted)

/-! ## Runs of steps -/

/-- 40_controller R164: from the falling edge of the strobe, k serial reads of a port return the bits of the mask latched then, least
significant first, and 1 from the ninth on; after k <= 8 reads the register is (m >> k) | ((0xFF << (8 - k)) & 0xFF). The
fill and the falling-edge latch are the spec's own decisions D11, D12 (log 20); that the whole byte of a read is 0x00 or 0x01 is D13
(R162; log 26). -/
def Obligations.SerialReadOutLsbFirst : Prop :=
  ∀ (s : State) (agent : Agent) (p : PadPort) (value : Byte) (k : Nat) (rest : List Event),
    s.ownedBy agent → s.cfg.ctlFillBit = true → wellFormed s.cfg (.strobeWr value) = true →
    wellFormed s.cfg (padInstr p) = true → s.ctl.strobeState = true → value.getLsbD 0 = false →
    s.inputs = .port agent (encode s.cfg (.strobeWr value)) ::
      (List.replicate k (.port agent (encode s.cfg (padInstr p))) ++ rest) →
    replies (k + 1) s = some (.ok :: (List.range k).map fun j =>
      .byte (if j < 8 then (if (s.ctl.buttonState.get p).getLsbD j then 0x01 else 0x00) else 0x01)) ∧
    ∃ t, Host.Core.run core (k + 1) s = .next t ∧
      (k ≤ 8 → t.ctl.shiftRegister.get p = (s.ctl.buttonState.get p >>> k) ||| ((0xFF : Byte) <<< (8 - k)))

/-- 40_controller R165: with the strobe high any number of reads returns bit 0 of the button mask and no register advances; after a read
both registers equal the masks (the re-latch of R162, the spec's own decision D12, log 20). That the whole byte is 0x00 or 0x01 is
D13 (log 26). -/
def Obligations.StrobeHighNeverAdvances : Prop :=
  ∀ (s : State) (agent : Agent) (p : PadPort) (k : Nat) (rest : List Event),
    s.ownedBy agent → wellFormed s.cfg (padInstr p) = true → s.ctl.strobeState = true →
    s.inputs = List.replicate k (.port agent (encode s.cfg (padInstr p))) ++ rest →
    replies k s = some (List.replicate k (.byte (if (s.ctl.buttonState.get p).getLsbD 0 then 0x01 else 0x00))) ∧
    ∃ t, Host.Core.run core k s = .next t ∧ (0 < k → t.ctl.shiftRegister = s.ctl.buttonState)

/-- 40_controller R166: a caller that shifts left and ORs in the eight read bits ends with the register's bits reversed.
The fold ORs whole read bytes: that their upper seven bits are 0 is the spec's own decision D13 (R162; log 26). -/
def Obligations.LeftReassemblyReversesBits : Prop :=
  ∀ (s : State) (agent : Agent) (p : PadPort) (rest : List Event),
    s.ownedBy agent → wellFormed s.cfg (padInstr p) = true → s.ctl.strobeState = false →
    s.inputs = List.replicate 8 (.port agent (encode s.cfg (padInstr p))) ++ rest →
    ∃ reads : List Byte, replies 8 s = some (reads.map .byte) ∧
      ∀ k, k < 8 → (reassembleLeft reads).getLsbD k = (s.ctl.shiftRegister.get p).getLsbD (7 - k)

/-- 41_ppu_registers R196: after a status read the next scroll write lands in X, and the next address write in the high byte, whatever
the state before. -/
def Obligations.StatusReadRestartsPair : Prop :=
  ∀ (s : State) (a b : Addr) (v : Byte), s.busAdmitted → ∃ t, exec (.ppuRd2Status a) s = .next t ∧
    (∃ u, exec (.ppuWr5Scroll b v) t = .next u ∧ u.ppu.scrollX = v ∧ u.ppu.scrollY = s.ppu.scrollY) ∧
    ∃ u, exec (.ppuWr6Addr b v) t = .next u ∧ u.ppu.vramAddr.extractLsb' 8 8 = v ∧
      u.ppu.vramAddr.extractLsb' 0 8 = s.ppu.vramAddr.extractLsb' 0 8

/-- 41_ppu_registers R199: N writes of register 7 advance the address by N increments modulo VRAM_SIZE (2^14 by R6; log 28). -/
def Obligations.DataWritesAdvanceAddress : Prop :=
  ∀ (data : List Byte) (s : State) (agent : Agent) (a : Addr) (rest : List Event),
    s.ownedBy agent → s.cfg.wf = true → wellFormed s.cfg (.ppuWr7Data a 0) = true →
    s.inputs = data.map (fun v => .port agent (encode s.cfg (.ppuWr7Data a v))) ++ rest →
    ∃ t, Host.Core.run core data.length s = .next t ∧ t.inputs = rest ∧
      t.ppu.vramAddr.toNat % s.cfg.vramSize =
        (s.ppu.vramAddr.toNat + data.length *
          (if s.ppu.ctrl.getLsbD s.cfg.ctrlIncBit.val then s.cfg.vramIncLarge else s.cfg.vramIncSmall)) % s.cfg.vramSize

/-- 41_ppu_registers R204: the status reads of a frame, from the state BEGIN_VBLANK leaves: the vblank bit at the first read alone, the
sprite-0 bit from the read after the threshold on (0x80, 0x00, 0x00, 0x40, 0x40, … by default). That the byte is sampled before the
counter steps (R185) is the spec's own decision D15, that its other six bits are 0 (R26) D10 (log 26). -/
def Obligations.StatusTimeline : Prop :=
  ∀ (s : State) (agent : Agent) (a : Addr) (k : Nat) (rest : List Event),
    s.ownedBy agent → s.cfg.wf = true → wellFormed s.cfg (.ppuRd2Status a) = true →
    s.ppu.vblank = true → s.ppu.sprite0Hit = false → s.ppu.statusReads = 0 →
    s.inputs = List.replicate k (.port agent (encode s.cfg (.ppuRd2Status a))) ++ rest →
    replies k s = some ((List.range k).map fun j =>
      .byte (if j = 0 then (1 : Byte) <<< s.cfg.statusVblankBit.val
        else if s.cfg.s0Threshold ≤ j then (1 : Byte) <<< s.cfg.statusS0hitBit.val else 0))

/-- 70_reset_and_hazards R361, 44_nmi_scheduler R264: with the interrupt enabled, n skips pending and the task cell not making the 0 to 1
step, n frames are suppressed and counted, and the next one is delivered. After SCHED_INIT n is WARMUP_SKIPS. That the first
tick runs the due step too (isFirstFrame true) is the spec's own decision D22. -/
def Obligations.PendingSkipsThenDelivery : Prop :=
  ∀ (n : Nat) (s : State) (p1 p2 : Byte) (rest : List Event),
    s.sup.phase = .idle → s.ppu.ctrl.getLsbD s.cfg.ctrlNmiBit.val = true → s.sched.pendingSkips = n →
    s.sched.nmiPending = false →
    (s.sched.isFirstFrame = true ∨ ¬ (s.sched.prevTask = 0 ∧ s.mem.read s.cfg.aTask.toNat = 1)) →
    s.inputs = List.replicate (n + 1) (.port .host (encode s.cfg (.runframe p1 p2))) ++ rest →
    replies (n + 1) s = some (List.replicate n (.done false) ++ [.invoke]) ∧
    ∃ t, Host.Core.run core (n + 1) s = .next t ∧ t.sup.phase = .inHandler ∧ t.sup.nmiDelivered = true ∧
      t.sched.pendingSkips = 0 ∧ t.sched.skippedCount = s.sched.skippedCount + n ∧
      t.sup.frameCounter = s.sup.frameCounter + n

/-! ## The movie (host side) -/

/-- 42_movie_input R222: character i of an 8-character button string is bit 7 - i, pressed unless it is the placeholder. That a string of
another length gives no mask is R223, R224 (b), the spec's own decision D41. -/
def Obligations.ButtonStringBits : Prop :=
  ∀ l : List Char, (l.length = 8 → ∃ m, buttonMask l = some m ∧
      ∀ (i : Nat) (c : Char), l[i]? = some c → m.getLsbD (7 - i) = (c != '.')) ∧
    (l.length ≠ 8 → buttonMask l = none)

/-- 42_movie_input R227: parsing the bare dialect's text gives the movie back, for movies whose port-2 masks are all 0x00 (the
dialect carries no other; what the printer does with one is the model's choice, log 29). -/
def Obligations.MovieRoundTrip : Prop :=
  ∀ movie : List MovieFrameInput, (∀ f, f ∈ movie → f.port2 = 0x00) → parseMovie (formatMovie movie) = movie
end

