-- ==== Sys2Proof/Laws/Decode.lean ====
section
/-! SUPPORT. The fields of the two port words read back, and what the selectors of an operation's word are
(30_encoding R120, R122, R123). -/

namespace Sys2Proof

open Machine

@[simp] theorem busRw_busWord (rw : Bool) (a : Addr) (d : Byte) : busRw (busWord rw a d) = rw := by
  unfold busRw busWord
  rw [BitVec.getLsbD_append, if_neg (by omega), BitVec.getLsbD_append, if_neg (by omega)]
  simp

@[simp] theorem busAddr_busWord (rw : Bool) (a : Addr) (d : Byte) : busAddr (busWord rw a d) = a := by
  apply BitVec.eq_of_getLsbD_eq
  intro j hj
  simp only [busAddr, busWord, BitVec.getLsbD_extractLsb', BitVec.getLsbD_append]
  simp [hj]

@[simp] theorem busData_busWord (rw : Bool) (a : Addr) (d : Byte) : busData (busWord rw a d) = d := by
  apply BitVec.eq_of_getLsbD_eq
  intro j hj
  simp only [busData, busWord, BitVec.getLsbD_extractLsb', BitVec.getLsbD_append]
  simp [hj]

@[simp] theorem cmdOp_cmdWord (op : Byte) (x : BitVec 24) : cmdOp (cmdWord op x) = op := by
  apply BitVec.eq_of_getLsbD_eq
  intro j hj
  simp only [cmdOp, cmdWord, BitVec.getLsbD_extractLsb', BitVec.getLsbD_append]
  simp [hj]

@[simp] theorem cmdOperand_cmdWord (op : Byte) (x : BitVec 24) : cmdOperand (cmdWord op x) = x := by
  apply BitVec.eq_of_getLsbD_eq
  intro j hj
  simp only [cmdOperand, cmdWord, BitVec.getLsbD_extractLsb', BitVec.getLsbD_append]
  simp [hj]

@[simp] theorem operandHigh_twoByteOperand (h l : Byte) : operandHigh (twoByteOperand h l) = h := by
  apply BitVec.eq_of_getLsbD_eq
  intro j hj
  simp only [operandHigh, twoByteOperand, BitVec.getLsbD_extractLsb', BitVec.getLsbD_append]
  simp [hj]

@[simp] theorem operandLow_twoByteOperand (h l : Byte) : operandLow (twoByteOperand h l) = l := by
  apply BitVec.eq_of_getLsbD_eq
  intro j hj
  simp only [operandLow, twoByteOperand, BitVec.getLsbD_extractLsb', BitVec.getLsbD_append]
  simp [hj]

/-- A BUS word is its three fields. -/
theorem busWord_fields (t : BitVec 25) : busWord (busRw t) (busAddr t) (busData t) = t := by
  apply BitVec.eq_of_getLsbD_eq
  intro j hj
  simp only [busWord, busRw, busAddr, busData, BitVec.getLsbD_append, BitVec.getLsbD_extractLsb']
  by_cases h8 : j < 8
  · simp [h8]
  · by_cases h24 : j - 8 < 16
    · simp [h8, h24, show 8 + (j - 8) = j by omega]
    · have : j = 24 := by omega
      subst this; simp

/-- The direction of an operation's BUS word. -/
def isWrite : Instr → Bool
  | .ppuWr0Ctrl _ _ => true
  | .ppuWr1Mask _ _ => true
  | .ppuWr2Status _ _ => true
  | .ppuWr3Oamaddr _ _ => true
  | .ppuWr4Oamdata _ _ => true
  | .ppuWr5Scroll _ _ => true
  | .ppuWr6Addr _ _ => true
  | .ppuWr7Data _ _ => true
  | .ppuRd0Ctrl _ => false
  | .ppuRd1Mask _ => false
  | .ppuRd2Status _ => false
  | .ppuRd3Oamaddr _ => false
  | .ppuRd4Oamdata _ => false
  | .ppuRd5Scroll _ => false
  | .ppuRd6Addr _ => false
  | .ppuRd7Data _ => false
  | .oamdmaWr _ => true
  | .strobeWr _ => true
  | .pad0Rd => false
  | .pad1Rd => false
  | .memRd _ => false
  | .memWr _ _ => true
  | .reset => false
  | .ctlReset => false
  | .setbtn _ _ => false
  | .ppuReset => false
  | .beginVblank => false
  | .endVblank => false
  | .nmiQuery => false
  | .schedInit => false
  | .schedTick => false
  | .skip _ => false
  | .disable => false
  | .runframe _ _ => false
  | .deliveredQuery => false
  | .setTimeout _ => false
  | .schedStat => false
  | .supInit => false

/-- The address of an operation's BUS word. -/
def addressOf (cfg : Config) : Instr → Option Addr
  | .ppuWr0Ctrl a _ => some a
  | .ppuWr1Mask a _ => some a
  | .ppuWr2Status a _ => some a
  | .ppuWr3Oamaddr a _ => some a
  | .ppuWr4Oamdata a _ => some a
  | .ppuWr5Scroll a _ => some a
  | .ppuWr6Addr a _ => some a
  | .ppuWr7Data a _ => some a
  | .ppuRd0Ctrl a => some a
  | .ppuRd1Mask a => some a
  | .ppuRd2Status a => some a
  | .ppuRd3Oamaddr a => some a
  | .ppuRd4Oamdata a => some a
  | .ppuRd5Scroll a => some a
  | .ppuRd6Addr a => some a
  | .ppuRd7Data a => some a
  | .oamdmaWr _ => some cfg.aOamDma
  | .strobeWr _ => some cfg.aStrobe
  | .pad0Rd => some cfg.aPad0
  | .pad1Rd => some cfg.aPad1
  | .memRd a => some a
  | .memWr a _ => some a
  | .reset => none
  | .ctlReset => none
  | .setbtn _ _ => none
  | .ppuReset => none
  | .beginVblank => none
  | .endVblank => none
  | .nmiQuery => none
  | .schedInit => none
  | .schedTick => none
  | .skip _ => none
  | .disable => none
  | .runframe _ _ => none
  | .deliveredQuery => none
  | .setTimeout _ => none
  | .schedStat => none
  | .supInit => none

/-- The command code of an operation (30_encoding R123). -/
def codeOf : Instr → Option Byte
  | .ppuWr0Ctrl _ _ => none
  | .ppuWr1Mask _ _ => none
  | .ppuWr2Status _ _ => none
  | .ppuWr3Oamaddr _ _ => none
  | .ppuWr4Oamdata _ _ => none
  | .ppuWr5Scroll _ _ => none
  | .ppuWr6Addr _ _ => none
  | .ppuWr7Data _ _ => none
  | .ppuRd0Ctrl _ => none
  | .ppuRd1Mask _ => none
  | .ppuRd2Status _ => none
  | .ppuRd3Oamaddr _ => none
  | .ppuRd4Oamdata _ => none
  | .ppuRd5Scroll _ => none
  | .ppuRd6Addr _ => none
  | .ppuRd7Data _ => none
  | .oamdmaWr _ => none
  | .strobeWr _ => none
  | .pad0Rd => none
  | .pad1Rd => none
  | .memRd _ => none
  | .memWr _ _ => none
  | .reset => some 0x00
  | .ctlReset => some 0x01
  | .setbtn _ _ => some 0x02
  | .ppuReset => some 0x03
  | .beginVblank => some 0x04
  | .endVblank => some 0x05
  | .nmiQuery => some 0x06
  | .schedInit => some 0x07
  | .schedTick => some 0x08
  | .skip _ => some 0x09
  | .disable => some 0x0A
  | .runframe _ _ => some 0x0B
  | .deliveredQuery => some 0x0C
  | .setTimeout _ => some 0x0D
  | .schedStat => some 0x0E
  | .supInit => some 0x0F

end Sys2Proof
end

