-- ==== Sys2Proof/Laws/State.lean ====
section
/-! SUPPORT. One lemma per field per update of the state and of the PPU device, true by rfl, so that no proof unfolds an update. -/

namespace Sys2Proof.Machine

variable (s : State) (p : Ppu)

@[simp] theorem memWrite_cfg (a : Addr) (v : Byte) : (memWrite s a v).cfg = s.cfg := rfl
@[simp] theorem memWrite_ctl (a : Addr) (v : Byte) : (memWrite s a v).ctl = s.ctl := rfl
@[simp] theorem memWrite_ppu (a : Addr) (v : Byte) : (memWrite s a v).ppu = s.ppu := rfl
@[simp] theorem memWrite_sched (a : Addr) (v : Byte) : (memWrite s a v).sched = s.sched := rfl
@[simp] theorem memWrite_sup (a : Addr) (v : Byte) : (memWrite s a v).sup = s.sup := rfl
@[simp] theorem memWrite_mem (a : Addr) (v : Byte) : (memWrite s a v).mem = s.mem.write a.toNat v := rfl
@[simp] theorem memWrite_movie (a : Addr) (v : Byte) : (memWrite s a v).movie = s.movie := rfl
@[simp] theorem memWrite_inputs (a : Addr) (v : Byte) : (memWrite s a v).inputs = s.inputs := rfl
@[simp] theorem memWrite_issuer (a : Addr) (v : Byte) : (memWrite s a v).issuer = s.issuer := rfl
@[simp] theorem memWrite_reply (a : Addr) (v : Byte) : (memWrite s a v).reply = s.reply := rfl

@[simp] theorem answer_cfg (r : Reply) : (s.answer r).cfg = s.cfg := rfl
@[simp] theorem answer_ctl (r : Reply) : (s.answer r).ctl = s.ctl := rfl
@[simp] theorem answer_ppu (r : Reply) : (s.answer r).ppu = s.ppu := rfl
@[simp] theorem answer_sched (r : Reply) : (s.answer r).sched = s.sched := rfl
@[simp] theorem answer_sup (r : Reply) : (s.answer r).sup = s.sup := rfl
@[simp] theorem answer_mem (r : Reply) : (s.answer r).mem = s.mem := rfl
@[simp] theorem answer_movie (r : Reply) : (s.answer r).movie = s.movie := rfl
@[simp] theorem answer_inputs (r : Reply) : (s.answer r).inputs = s.inputs := rfl
@[simp] theorem answer_issuer (r : Reply) : (s.answer r).issuer = s.issuer := rfl
@[simp] theorem answer_reply (r : Reply) : (s.answer r).reply = r := rfl

@[simp] theorem setButtons_cfg (p : PadPort) (mask : Byte) : (setButtons p mask s).cfg = s.cfg := rfl
@[simp] theorem setButtons_ctl (p : PadPort) (mask : Byte) : (setButtons p mask s).ctl =
    if hasPort s.cfg p then s.ctl.setButtons p mask else s.ctl := rfl
@[simp] theorem setButtons_ppu (p : PadPort) (mask : Byte) : (setButtons p mask s).ppu = s.ppu := rfl
@[simp] theorem setButtons_sched (p : PadPort) (mask : Byte) : (setButtons p mask s).sched = s.sched := rfl
@[simp] theorem setButtons_sup (p : PadPort) (mask : Byte) : (setButtons p mask s).sup = s.sup := rfl
@[simp] theorem setButtons_mem (p : PadPort) (mask : Byte) : (setButtons p mask s).mem = s.mem := rfl
@[simp] theorem setButtons_movie (p : PadPort) (mask : Byte) : (setButtons p mask s).movie = s.movie := rfl
@[simp] theorem setButtons_inputs (p : PadPort) (mask : Byte) : (setButtons p mask s).inputs = s.inputs := rfl
@[simp] theorem setButtons_issuer (p : PadPort) (mask : Byte) : (setButtons p mask s).issuer = s.issuer := rfl
@[simp] theorem setButtons_reply (p : PadPort) (mask : Byte) : (setButtons p mask s).reply = s.reply := rfl

@[simp] theorem readController_cfg (p : PadPort) : (readController p s).cfg = s.cfg := rfl
@[simp] theorem readController_ctl (p : PadPort) : (readController p s).ctl = s.ctl.padRead s.cfg.ctlFillBit p := rfl
@[simp] theorem readController_ppu (p : PadPort) : (readController p s).ppu = s.ppu := rfl
@[simp] theorem readController_sched (p : PadPort) : (readController p s).sched = s.sched := rfl
@[simp] theorem readController_sup (p : PadPort) : (readController p s).sup = s.sup := rfl
@[simp] theorem readController_mem (p : PadPort) : (readController p s).mem = s.mem := rfl
@[simp] theorem readController_movie (p : PadPort) : (readController p s).movie = s.movie := rfl
@[simp] theorem readController_inputs (p : PadPort) : (readController p s).inputs = s.inputs := rfl
@[simp] theorem readController_issuer (p : PadPort) : (readController p s).issuer = s.issuer := rfl
@[simp] theorem readController_reply (p : PadPort) : (readController p s).reply = .byte (s.ctl.padByte p) := rfl

@[simp] theorem resetCtl_cfg : (resetCtl s).cfg = s.cfg := rfl
@[simp] theorem resetCtl_ctl : (resetCtl s).ctl = Ctl.reset := rfl
@[simp] theorem resetCtl_ppu : (resetCtl s).ppu = s.ppu := rfl
@[simp] theorem resetCtl_sched : (resetCtl s).sched = s.sched := rfl
@[simp] theorem resetCtl_sup : (resetCtl s).sup = s.sup := rfl
@[simp] theorem resetCtl_mem : (resetCtl s).mem = s.mem := rfl
@[simp] theorem resetCtl_movie : (resetCtl s).movie = s.movie := rfl
@[simp] theorem resetCtl_inputs : (resetCtl s).inputs = s.inputs := rfl
@[simp] theorem resetCtl_issuer : (resetCtl s).issuer = s.issuer := rfl
@[simp] theorem resetCtl_reply : (resetCtl s).reply = s.reply := rfl

@[simp] theorem resetPpu_cfg : (resetPpu s).cfg = s.cfg := rfl
@[simp] theorem resetPpu_ctl : (resetPpu s).ctl = s.ctl := rfl
@[simp] theorem resetPpu_ppu : (resetPpu s).ppu = Ppu.reset := rfl
@[simp] theorem resetPpu_sched : (resetPpu s).sched = s.sched := rfl
@[simp] theorem resetPpu_sup : (resetPpu s).sup = s.sup := rfl
@[simp] theorem resetPpu_mem : (resetPpu s).mem = s.mem := rfl
@[simp] theorem resetPpu_movie : (resetPpu s).movie = s.movie := rfl
@[simp] theorem resetPpu_inputs : (resetPpu s).inputs = s.inputs := rfl
@[simp] theorem resetPpu_issuer : (resetPpu s).issuer = s.issuer := rfl
@[simp] theorem resetPpu_reply : (resetPpu s).reply = s.reply := rfl

@[simp] theorem beginVblank_cfg : (beginVblank s).cfg = s.cfg := rfl
@[simp] theorem beginVblank_ctl : (beginVblank s).ctl = s.ctl := rfl
@[simp] theorem beginVblank_ppu : (beginVblank s).ppu = s.ppu.beginVblank := rfl
@[simp] theorem beginVblank_sched : (beginVblank s).sched = s.sched := rfl
@[simp] theorem beginVblank_sup : (beginVblank s).sup = s.sup := rfl
@[simp] theorem beginVblank_mem : (beginVblank s).mem = s.mem := rfl
@[simp] theorem beginVblank_movie : (beginVblank s).movie = s.movie := rfl
@[simp] theorem beginVblank_inputs : (beginVblank s).inputs = s.inputs := rfl
@[simp] theorem beginVblank_issuer : (beginVblank s).issuer = s.issuer := rfl
@[simp] theorem beginVblank_reply : (beginVblank s).reply = s.reply := rfl

@[simp] theorem endVblank_cfg : (endVblank s).cfg = s.cfg := rfl
@[simp] theorem endVblank_ctl : (endVblank s).ctl = s.ctl := rfl
@[simp] theorem endVblank_ppu : (endVblank s).ppu = s.ppu.endVblank := rfl
@[simp] theorem endVblank_sched : (endVblank s).sched = s.sched := rfl
@[simp] theorem endVblank_sup : (endVblank s).sup = s.sup := rfl
@[simp] theorem endVblank_mem : (endVblank s).mem = s.mem := rfl
@[simp] theorem endVblank_movie : (endVblank s).movie = s.movie := rfl
@[simp] theorem endVblank_inputs : (endVblank s).inputs = s.inputs := rfl
@[simp] theorem endVblank_issuer : (endVblank s).issuer = s.issuer := rfl
@[simp] theorem endVblank_reply : (endVblank s).reply = s.reply := rfl

@[simp] theorem schedTick_cfg : (schedTick s).cfg = s.cfg := rfl
@[simp] theorem schedTick_ctl : (schedTick s).ctl = s.ctl := rfl
@[simp] theorem schedTick_ppu : (schedTick s).ppu = s.ppu := rfl
@[simp] theorem schedTick_sched : (schedTick s).sched = (s.sched.transitionStep s.cfg (memRead s s.cfg.aTask) (memRead s s.cfg.aMode)).dueStep
      (shouldTriggerNmi s.cfg s.ppu) := rfl
@[simp] theorem schedTick_sup : (schedTick s).sup = s.sup := rfl
@[simp] theorem schedTick_mem : (schedTick s).mem = s.mem := rfl
@[simp] theorem schedTick_movie : (schedTick s).movie = s.movie := rfl
@[simp] theorem schedTick_inputs : (schedTick s).inputs = s.inputs := rfl
@[simp] theorem schedTick_issuer : (schedTick s).issuer = s.issuer := rfl
@[simp] theorem schedTick_reply : (schedTick s).reply = s.reply := rfl

@[simp] theorem initSched_cfg : (initSched s).cfg = s.cfg := rfl
@[simp] theorem initSched_ctl : (initSched s).ctl = s.ctl := rfl
@[simp] theorem initSched_ppu : (initSched s).ppu = s.ppu := rfl
@[simp] theorem initSched_sched : (initSched s).sched = Sched.init s.cfg := rfl
@[simp] theorem initSched_sup : (initSched s).sup = s.sup := rfl
@[simp] theorem initSched_mem : (initSched s).mem = s.mem := rfl
@[simp] theorem initSched_movie : (initSched s).movie = s.movie := rfl
@[simp] theorem initSched_inputs : (initSched s).inputs = s.inputs := rfl
@[simp] theorem initSched_issuer : (initSched s).issuer = s.issuer := rfl
@[simp] theorem initSched_reply : (initSched s).reply = s.reply := rfl

@[simp] theorem initSup_cfg : (initSup s).cfg = s.cfg := rfl
@[simp] theorem initSup_ctl : (initSup s).ctl = s.ctl := rfl
@[simp] theorem initSup_ppu : (initSup s).ppu = s.ppu := rfl
@[simp] theorem initSup_sched : (initSup s).sched = s.sched := rfl
@[simp] theorem initSup_sup : (initSup s).sup = Sup.init s.cfg := rfl
@[simp] theorem initSup_mem : (initSup s).mem = s.mem := rfl
@[simp] theorem initSup_movie : (initSup s).movie = s.movie := rfl
@[simp] theorem initSup_inputs : (initSup s).inputs = s.inputs := rfl
@[simp] theorem initSup_issuer : (initSup s).issuer = s.issuer := rfl
@[simp] theorem initSup_reply : (initSup s).reply = s.reply := rfl

@[simp] theorem deliverNmi_cfg : (deliverNmi s).cfg = s.cfg := rfl
@[simp] theorem deliverNmi_ctl : (deliverNmi s).ctl = s.ctl := rfl
@[simp] theorem deliverNmi_ppu : (deliverNmi s).ppu = s.ppu := rfl
@[simp] theorem deliverNmi_sched : (deliverNmi s).sched = { s.sched with nmiPending := false } := rfl
@[simp] theorem deliverNmi_sup : (deliverNmi s).sup = { s.sup with nmiDelivered := true, phase := .inHandler } := rfl
@[simp] theorem deliverNmi_mem : (deliverNmi s).mem = s.mem := rfl
@[simp] theorem deliverNmi_movie : (deliverNmi s).movie = s.movie := rfl
@[simp] theorem deliverNmi_inputs : (deliverNmi s).inputs = s.inputs := rfl
@[simp] theorem deliverNmi_issuer : (deliverNmi s).issuer = s.issuer := rfl
@[simp] theorem deliverNmi_reply : (deliverNmi s).reply = .invoke := rfl

@[simp] theorem finishFrame_cfg : (finishFrame s).cfg = s.cfg := rfl
@[simp] theorem finishFrame_ctl : (finishFrame s).ctl = s.ctl := rfl
@[simp] theorem finishFrame_ppu : (finishFrame s).ppu = s.ppu := rfl
@[simp] theorem finishFrame_sched : (finishFrame s).sched = s.sched := rfl
@[simp] theorem finishFrame_sup : (finishFrame s).sup = { s.sup with frameCounter := s.sup.frameCounter + 1 } := rfl
@[simp] theorem finishFrame_mem : (finishFrame s).mem = s.mem := rfl
@[simp] theorem finishFrame_movie : (finishFrame s).movie = s.movie := rfl
@[simp] theorem finishFrame_inputs : (finishFrame s).inputs = s.inputs := rfl
@[simp] theorem finishFrame_issuer : (finishFrame s).issuer = s.issuer := rfl
@[simp] theorem finishFrame_reply : (finishFrame s).reply = .done s.sup.nmiDelivered := rfl

@[simp] theorem returnFromHandler_cfg : (returnFromHandler s).cfg = s.cfg := rfl
@[simp] theorem returnFromHandler_ctl : (returnFromHandler s).ctl = s.ctl := rfl
@[simp] theorem returnFromHandler_ppu : (returnFromHandler s).ppu = s.ppu := rfl
@[simp] theorem returnFromHandler_sched : (returnFromHandler s).sched = s.sched := rfl
@[simp] theorem returnFromHandler_sup : (returnFromHandler s).sup = { s.sup with phase := .idle, frameCounter := s.sup.frameCounter + 1 } := rfl
@[simp] theorem returnFromHandler_mem : (returnFromHandler s).mem = s.mem := rfl
@[simp] theorem returnFromHandler_movie : (returnFromHandler s).movie = s.movie := rfl
@[simp] theorem returnFromHandler_inputs : (returnFromHandler s).inputs = s.inputs := rfl
@[simp] theorem returnFromHandler_issuer : (returnFromHandler s).issuer = s.issuer := rfl
@[simp] theorem returnFromHandler_reply : (returnFromHandler s).reply = .done s.sup.nmiDelivered := rfl

@[simp] theorem withFetchWord_cfg (nbits w : Nat) : (s.withFetchWord nbits w).cfg = s.cfg := rfl
@[simp] theorem withFetchWord_ctl (nbits w : Nat) : (s.withFetchWord nbits w).ctl = s.ctl := rfl
@[simp] theorem withFetchWord_ppu (nbits w : Nat) : (s.withFetchWord nbits w).ppu = s.ppu := rfl
@[simp] theorem withFetchWord_sched (nbits w : Nat) : (s.withFetchWord nbits w).sched = s.sched := rfl
@[simp] theorem withFetchWord_sup (nbits w : Nat) : (s.withFetchWord nbits w).sup = s.sup := rfl
@[simp] theorem withFetchWord_mem (nbits w : Nat) : (s.withFetchWord nbits w).mem = s.mem := rfl
@[simp] theorem withFetchWord_movie (nbits w : Nat) : (s.withFetchWord nbits w).movie = s.movie := rfl
@[simp] theorem withFetchWord_inputs (nbits w : Nat) : (s.withFetchWord nbits w).inputs = tableEvent s nbits w :: s.inputs := rfl
@[simp] theorem withFetchWord_issuer (nbits w : Nat) : (s.withFetchWord nbits w).issuer = s.issuer := rfl
@[simp] theorem withFetchWord_reply (nbits w : Nat) : (s.withFetchWord nbits w).reply = s.reply := rfl

@[simp] theorem Ppu.beginVblank_ctrl : (p.beginVblank).ctrl = p.ctrl := rfl
@[simp] theorem Ppu.beginVblank_mask : (p.beginVblank).mask = p.mask := rfl
@[simp] theorem Ppu.beginVblank_oamAddr : (p.beginVblank).oamAddr = p.oamAddr := rfl
@[simp] theorem Ppu.beginVblank_scrollX : (p.beginVblank).scrollX = p.scrollX := rfl
@[simp] theorem Ppu.beginVblank_scrollY : (p.beginVblank).scrollY = p.scrollY := rfl
@[simp] theorem Ppu.beginVblank_vramAddr : (p.beginVblank).vramAddr = p.vramAddr := rfl
@[simp] theorem Ppu.beginVblank_w : (p.beginVblank).w = p.w := rfl
@[simp] theorem Ppu.beginVblank_vblank : (p.beginVblank).vblank = true := rfl
@[simp] theorem Ppu.beginVblank_sprite0Hit : (p.beginVblank).sprite0Hit = false := rfl
@[simp] theorem Ppu.beginVblank_statusReads : (p.beginVblank).statusReads = 0 := rfl
@[simp] theorem Ppu.beginVblank_ppuFrame : (p.beginVblank).ppuFrame = p.ppuFrame := rfl
@[simp] theorem Ppu.beginVblank_vram : (p.beginVblank).vram = p.vram := rfl
@[simp] theorem Ppu.beginVblank_oam : (p.beginVblank).oam = p.oam := rfl

@[simp] theorem Ppu.endVblank_ctrl : (p.endVblank).ctrl = p.ctrl := rfl
@[simp] theorem Ppu.endVblank_mask : (p.endVblank).mask = p.mask := rfl
@[simp] theorem Ppu.endVblank_oamAddr : (p.endVblank).oamAddr = p.oamAddr := rfl
@[simp] theorem Ppu.endVblank_scrollX : (p.endVblank).scrollX = p.scrollX := rfl
@[simp] theorem Ppu.endVblank_scrollY : (p.endVblank).scrollY = p.scrollY := rfl
@[simp] theorem Ppu.endVblank_vramAddr : (p.endVblank).vramAddr = p.vramAddr := rfl
@[simp] theorem Ppu.endVblank_w : (p.endVblank).w = p.w := rfl
@[simp] theorem Ppu.endVblank_vblank : (p.endVblank).vblank = false := rfl
@[simp] theorem Ppu.endVblank_sprite0Hit : (p.endVblank).sprite0Hit = true := rfl
@[simp] theorem Ppu.endVblank_statusReads : (p.endVblank).statusReads = p.statusReads := rfl
@[simp] theorem Ppu.endVblank_ppuFrame : (p.endVblank).ppuFrame = p.ppuFrame + 1 := rfl
@[simp] theorem Ppu.endVblank_vram : (p.endVblank).vram = p.vram := rfl
@[simp] theorem Ppu.endVblank_oam : (p.endVblank).oam = p.oam := rfl

@[simp] theorem Ppu.oamDataWrite_ctrl (cfg : Config) (v : Byte) : (p.oamDataWrite cfg v).ctrl = p.ctrl := rfl
@[simp] theorem Ppu.oamDataWrite_mask (cfg : Config) (v : Byte) : (p.oamDataWrite cfg v).mask = p.mask := rfl
@[simp] theorem Ppu.oamDataWrite_oamAddr (cfg : Config) (v : Byte) : (p.oamDataWrite cfg v).oamAddr = p.oamAddr + 1 := rfl
@[simp] theorem Ppu.oamDataWrite_scrollX (cfg : Config) (v : Byte) : (p.oamDataWrite cfg v).scrollX = p.scrollX := rfl
@[simp] theorem Ppu.oamDataWrite_scrollY (cfg : Config) (v : Byte) : (p.oamDataWrite cfg v).scrollY = p.scrollY := rfl
@[simp] theorem Ppu.oamDataWrite_vramAddr (cfg : Config) (v : Byte) : (p.oamDataWrite cfg v).vramAddr = p.vramAddr := rfl
@[simp] theorem Ppu.oamDataWrite_w (cfg : Config) (v : Byte) : (p.oamDataWrite cfg v).w = p.w := rfl
@[simp] theorem Ppu.oamDataWrite_vblank (cfg : Config) (v : Byte) : (p.oamDataWrite cfg v).vblank = p.vblank := rfl
@[simp] theorem Ppu.oamDataWrite_sprite0Hit (cfg : Config) (v : Byte) : (p.oamDataWrite cfg v).sprite0Hit = p.sprite0Hit := rfl
@[simp] theorem Ppu.oamDataWrite_statusReads (cfg : Config) (v : Byte) : (p.oamDataWrite cfg v).statusReads = p.statusReads := rfl
@[simp] theorem Ppu.oamDataWrite_ppuFrame (cfg : Config) (v : Byte) : (p.oamDataWrite cfg v).ppuFrame = p.ppuFrame := rfl
@[simp] theorem Ppu.oamDataWrite_vram (cfg : Config) (v : Byte) : (p.oamDataWrite cfg v).vram = p.vram := rfl
@[simp] theorem Ppu.oamDataWrite_oam (cfg : Config) (v : Byte) : (p.oamDataWrite cfg v).oam = p.oam.write (oamIndex cfg p.oamAddr) v := rfl

@[simp] theorem Ppu.vramStore_ctrl (cfg : Config) (v : Byte) : (p.vramStore cfg v).ctrl = p.ctrl := rfl
@[simp] theorem Ppu.vramStore_mask (cfg : Config) (v : Byte) : (p.vramStore cfg v).mask = p.mask := rfl
@[simp] theorem Ppu.vramStore_oamAddr (cfg : Config) (v : Byte) : (p.vramStore cfg v).oamAddr = p.oamAddr := rfl
@[simp] theorem Ppu.vramStore_scrollX (cfg : Config) (v : Byte) : (p.vramStore cfg v).scrollX = p.scrollX := rfl
@[simp] theorem Ppu.vramStore_scrollY (cfg : Config) (v : Byte) : (p.vramStore cfg v).scrollY = p.scrollY := rfl
@[simp] theorem Ppu.vramStore_vramAddr (cfg : Config) (v : Byte) : (p.vramStore cfg v).vramAddr = p.vramAddr := rfl
@[simp] theorem Ppu.vramStore_w (cfg : Config) (v : Byte) : (p.vramStore cfg v).w = p.w := rfl
@[simp] theorem Ppu.vramStore_vblank (cfg : Config) (v : Byte) : (p.vramStore cfg v).vblank = p.vblank := rfl
@[simp] theorem Ppu.vramStore_sprite0Hit (cfg : Config) (v : Byte) : (p.vramStore cfg v).sprite0Hit = p.sprite0Hit := rfl
@[simp] theorem Ppu.vramStore_statusReads (cfg : Config) (v : Byte) : (p.vramStore cfg v).statusReads = p.statusReads := rfl
@[simp] theorem Ppu.vramStore_ppuFrame (cfg : Config) (v : Byte) : (p.vramStore cfg v).ppuFrame = p.ppuFrame := rfl
@[simp] theorem Ppu.vramStore_vram (cfg : Config) (v : Byte) : (p.vramStore cfg v).vram = p.vram.write (vramIndex cfg p.vramAddr).toNat v := rfl
@[simp] theorem Ppu.vramStore_oam (cfg : Config) (v : Byte) : (p.vramStore cfg v).oam = p.oam := rfl

@[simp] theorem Ppu.vramInc_ctrl (cfg : Config) : (p.vramInc cfg).ctrl = p.ctrl := rfl
@[simp] theorem Ppu.vramInc_mask (cfg : Config) : (p.vramInc cfg).mask = p.mask := rfl
@[simp] theorem Ppu.vramInc_oamAddr (cfg : Config) : (p.vramInc cfg).oamAddr = p.oamAddr := rfl
@[simp] theorem Ppu.vramInc_scrollX (cfg : Config) : (p.vramInc cfg).scrollX = p.scrollX := rfl
@[simp] theorem Ppu.vramInc_scrollY (cfg : Config) : (p.vramInc cfg).scrollY = p.scrollY := rfl
@[simp] theorem Ppu.vramInc_vramAddr (cfg : Config) : (p.vramInc cfg).vramAddr = vramAdvance cfg (vramStep cfg p.ctrl) p.vramAddr := rfl
@[simp] theorem Ppu.vramInc_w (cfg : Config) : (p.vramInc cfg).w = p.w := rfl
@[simp] theorem Ppu.vramInc_vblank (cfg : Config) : (p.vramInc cfg).vblank = p.vblank := rfl
@[simp] theorem Ppu.vramInc_sprite0Hit (cfg : Config) : (p.vramInc cfg).sprite0Hit = p.sprite0Hit := rfl
@[simp] theorem Ppu.vramInc_statusReads (cfg : Config) : (p.vramInc cfg).statusReads = p.statusReads := rfl
@[simp] theorem Ppu.vramInc_ppuFrame (cfg : Config) : (p.vramInc cfg).ppuFrame = p.ppuFrame := rfl
@[simp] theorem Ppu.vramInc_vram (cfg : Config) : (p.vramInc cfg).vram = p.vram := rfl
@[simp] theorem Ppu.vramInc_oam (cfg : Config) : (p.vramInc cfg).oam = p.oam := rfl

@[simp] theorem Ppu.oamDma_ctrl (cfg : Config) (src : List Byte) : (p.oamDma cfg src).ctrl = p.ctrl := rfl
@[simp] theorem Ppu.oamDma_mask (cfg : Config) (src : List Byte) : (p.oamDma cfg src).mask = p.mask := rfl
@[simp] theorem Ppu.oamDma_oamAddr (cfg : Config) (src : List Byte) : (p.oamDma cfg src).oamAddr = p.oamAddr := rfl
@[simp] theorem Ppu.oamDma_scrollX (cfg : Config) (src : List Byte) : (p.oamDma cfg src).scrollX = p.scrollX := rfl
@[simp] theorem Ppu.oamDma_scrollY (cfg : Config) (src : List Byte) : (p.oamDma cfg src).scrollY = p.scrollY := rfl
@[simp] theorem Ppu.oamDma_vramAddr (cfg : Config) (src : List Byte) : (p.oamDma cfg src).vramAddr = p.vramAddr := rfl
@[simp] theorem Ppu.oamDma_w (cfg : Config) (src : List Byte) : (p.oamDma cfg src).w = p.w := rfl
@[simp] theorem Ppu.oamDma_vblank (cfg : Config) (src : List Byte) : (p.oamDma cfg src).vblank = p.vblank := rfl
@[simp] theorem Ppu.oamDma_sprite0Hit (cfg : Config) (src : List Byte) : (p.oamDma cfg src).sprite0Hit = p.sprite0Hit := rfl
@[simp] theorem Ppu.oamDma_statusReads (cfg : Config) (src : List Byte) : (p.oamDma cfg src).statusReads = p.statusReads := rfl
@[simp] theorem Ppu.oamDma_ppuFrame (cfg : Config) (src : List Byte) : (p.oamDma cfg src).ppuFrame = p.ppuFrame := rfl
@[simp] theorem Ppu.oamDma_vram (cfg : Config) (src : List Byte) : (p.oamDma cfg src).vram = p.vram := rfl
@[simp] theorem Ppu.oamDma_oam (cfg : Config) (src : List Byte) : (p.oamDma cfg src).oam = p.oam.copyBytes cfg p.oamAddr src := rfl

@[simp] theorem Ppu.statusRead_ctrl (cfg : Config) : (p.statusRead cfg).ctrl = p.ctrl := by
  cases h : p.sprite0Hit <;> simp [Ppu.statusRead, Ppu.countStatusRead, h]
@[simp] theorem Ppu.statusRead_mask (cfg : Config) : (p.statusRead cfg).mask = p.mask := by
  cases h : p.sprite0Hit <;> simp [Ppu.statusRead, Ppu.countStatusRead, h]
@[simp] theorem Ppu.statusRead_oamAddr (cfg : Config) : (p.statusRead cfg).oamAddr = p.oamAddr := by
  cases h : p.sprite0Hit <;> simp [Ppu.statusRead, Ppu.countStatusRead, h]
@[simp] theorem Ppu.statusRead_scrollX (cfg : Config) : (p.statusRead cfg).scrollX = p.scrollX := by
  cases h : p.sprite0Hit <;> simp [Ppu.statusRead, Ppu.countStatusRead, h]
@[simp] theorem Ppu.statusRead_scrollY (cfg : Config) : (p.statusRead cfg).scrollY = p.scrollY := by
  cases h : p.sprite0Hit <;> simp [Ppu.statusRead, Ppu.countStatusRead, h]
@[simp] theorem Ppu.statusRead_vramAddr (cfg : Config) : (p.statusRead cfg).vramAddr = p.vramAddr := by
  cases h : p.sprite0Hit <;> simp [Ppu.statusRead, Ppu.countStatusRead, h]
@[simp] theorem Ppu.statusRead_w (cfg : Config) : (p.statusRead cfg).w = false := by
  cases h : p.sprite0Hit <;> simp [Ppu.statusRead, Ppu.countStatusRead, h]
@[simp] theorem Ppu.statusRead_vblank (cfg : Config) : (p.statusRead cfg).vblank = false := by
  cases h : p.sprite0Hit <;> simp [Ppu.statusRead, Ppu.countStatusRead, h]
@[simp] theorem Ppu.statusRead_sprite0Hit (cfg : Config) : (p.statusRead cfg).sprite0Hit = (p.sprite0Hit || decide (cfg.s0Threshold ≤ p.statusReads + 1)) := by
  cases h : p.sprite0Hit <;> simp [Ppu.statusRead, Ppu.countStatusRead, h]
@[simp] theorem Ppu.statusRead_statusReads (cfg : Config) : (p.statusRead cfg).statusReads = if p.sprite0Hit then p.statusReads else p.statusReads + 1 := by
  cases h : p.sprite0Hit <;> simp [Ppu.statusRead, Ppu.countStatusRead, h]
@[simp] theorem Ppu.statusRead_ppuFrame (cfg : Config) : (p.statusRead cfg).ppuFrame = p.ppuFrame := by
  cases h : p.sprite0Hit <;> simp [Ppu.statusRead, Ppu.countStatusRead, h]
@[simp] theorem Ppu.statusRead_vram (cfg : Config) : (p.statusRead cfg).vram = p.vram := by
  cases h : p.sprite0Hit <;> simp [Ppu.statusRead, Ppu.countStatusRead, h]
@[simp] theorem Ppu.statusRead_oam (cfg : Config) : (p.statusRead cfg).oam = p.oam := by
  cases h : p.sprite0Hit <;> simp [Ppu.statusRead, Ppu.countStatusRead, h]

end Sys2Proof.Machine
end

