-- ==== Sys2Proof/Laws/Exec.lean ====
section
/-! SUPPORT. What each operation does, once: its class in the admission table and its effect (spec lemmas of exec), and what
admission decides. -/

namespace Sys2Proof.Machine

variable (s : State)

theorem exec_ppuWr0Ctrl (a : Addr) (v : Byte) : exec (.ppuWr0Ctrl a v) s =
    guarded .bus s { s with ppu := { s.ppu with ctrl := v }, reply := .ok } := rfl

theorem exec_ppuWr1Mask (a : Addr) (v : Byte) : exec (.ppuWr1Mask a v) s =
    guarded .bus s { s with ppu := { s.ppu with mask := v }, reply := .ok } := rfl

theorem exec_ppuWr2Status (a : Addr) (v : Byte) : exec (.ppuWr2Status a v) s =
    guarded .bus s (s.answer .ignored) := rfl

theorem exec_ppuWr3Oamaddr (a : Addr) (v : Byte) : exec (.ppuWr3Oamaddr a v) s =
    guarded .bus s { s with ppu := { s.ppu with oamAddr := v }, reply := .ok } := rfl

theorem exec_ppuWr4Oamdata (a : Addr) (v : Byte) : exec (.ppuWr4Oamdata a v) s =
    guarded .bus s { s with ppu := s.ppu.oamDataWrite s.cfg v, reply := .ok } := rfl

theorem exec_ppuWr5Scroll (a : Addr) (v : Byte) : exec (.ppuWr5Scroll a v) s =
    guarded .bus s { s with ppu := s.ppu.scrollWrite v, reply := .ok } := rfl

theorem exec_ppuWr6Addr (a : Addr) (v : Byte) : exec (.ppuWr6Addr a v) s =
    guarded .bus s { s with ppu := s.ppu.addrWrite v, reply := .ok } := rfl

theorem exec_ppuWr7Data (a : Addr) (v : Byte) : exec (.ppuWr7Data a v) s =
    guarded .bus s { s with ppu := (s.ppu.vramStore s.cfg v).vramInc s.cfg, reply := .ok } := rfl

theorem exec_ppuRd0Ctrl (a : Addr) : exec (.ppuRd0Ctrl a) s =
    guarded .bus s { s with reply := .byte s.cfg.ppuWoRead } := rfl

theorem exec_ppuRd1Mask (a : Addr) : exec (.ppuRd1Mask a) s =
    guarded .bus s { s with reply := .byte s.cfg.ppuWoRead } := rfl

theorem exec_ppuRd2Status (a : Addr) : exec (.ppuRd2Status a) s =
    guarded .bus s { s with ppu := s.ppu.statusRead s.cfg, reply := .byte (statusByte s.cfg s.ppu) } := rfl

theorem exec_ppuRd3Oamaddr (a : Addr) : exec (.ppuRd3Oamaddr a) s =
    guarded .bus s { s with reply := .byte s.cfg.ppuWoRead } := rfl

theorem exec_ppuRd4Oamdata (a : Addr) : exec (.ppuRd4Oamdata a) s =
    guarded .bus s { s with reply := .byte (s.ppu.oamDataRead s.cfg) } := rfl

theorem exec_ppuRd5Scroll (a : Addr) : exec (.ppuRd5Scroll a) s =
    guarded .bus s { s with reply := .byte s.cfg.ppuWoRead } := rfl

theorem exec_ppuRd6Addr (a : Addr) : exec (.ppuRd6Addr a) s =
    guarded .bus s { s with reply := .byte s.cfg.ppuWoRead } := rfl

theorem exec_ppuRd7Data (a : Addr) : exec (.ppuRd7Data a) s =
    guarded .bus s { s with ppu := s.ppu.vramInc s.cfg, reply := .byte (s.ppu.vramLoad s.cfg) } := rfl

theorem exec_oamdmaWr (page : Byte) : exec (.oamdmaWr page) s =
    guarded .bus s { s with ppu := s.ppu.oamDma s.cfg (dmaBytes s.mem page), reply := .ok } := rfl

theorem exec_strobeWr (value : Byte) : exec (.strobeWr value) s =
    guarded .bus s { s with ctl := s.ctl.writeStrobe value, reply := .ok } := rfl

theorem exec_pad0Rd : exec .pad0Rd s =
    guarded .bus s (readController .port0 s) := rfl

theorem exec_pad1Rd : exec .pad1Rd s =
    guarded .bus s (readController .port1 s) := rfl

theorem exec_memRd (a : Addr) : exec (.memRd a) s =
    guarded .bus s { s with reply := .byte (memRead s a) } := rfl

theorem exec_memWr (a : Addr) (v : Byte) : exec (.memWr a v) s =
    guarded .bus s { s with mem := s.mem.write a.toNat v, reply := .ok } := rfl

theorem exec_reset : exec .reset s =
    guarded .restart s { s with ctl := Ctl.reset, ppu := Ppu.reset, sched := Sched.init s.cfg, sup := Sup.init s.cfg, reply := .ok } := rfl

theorem exec_ctlReset : exec .ctlReset s =
    guarded .hostCommand s { s with ctl := Ctl.reset, reply := .ok } := rfl

theorem exec_setbtn (port mask : Byte) : exec (.setbtn port mask) s =
    guarded .hostCommand s
      (match padOf s.cfg port with
      | some p => (setButtons p mask s).answer .ok
      | none => s.answer .ignored) := rfl

theorem exec_ppuReset : exec .ppuReset s =
    guarded .hostCommand s { s with ppu := Ppu.reset, reply := .ok } := rfl

theorem exec_beginVblank : exec .beginVblank s =
    guarded .hostCommand s { s with ppu := s.ppu.beginVblank, reply := .ok } := rfl

theorem exec_endVblank : exec .endVblank s =
    guarded .hostCommand s { s with ppu := s.ppu.endVblank, reply := .ok } := rfl

theorem exec_nmiQuery : exec .nmiQuery s =
    guarded .hostCommand s { s with reply := .bit (shouldTriggerNmi s.cfg s.ppu) } := rfl

theorem exec_schedInit : exec .schedInit s =
    guarded .hostCommand s { s with sched := Sched.init s.cfg, reply := .ok } := rfl

theorem exec_schedTick : exec .schedTick s =
    guarded .hostCommand s ((Machine.schedTick s).answer .ok) := rfl

theorem exec_skip (n : BitVec 24) : exec (.skip n) s =
    guarded .handlerCommand s { s with sched := { s.sched with pendingSkips := s.sched.pendingSkips + n.toNat }, reply := .ok } := rfl

theorem exec_disable : exec .disable s =
    guarded .handlerCommand s { s with sched := s.sched.disable (memRead s s.cfg.aTask) (memRead s s.cfg.aMode), reply := .ok } := rfl

theorem exec_runframe (port1Mask port2Mask : Byte) : exec (.runframe port1Mask port2Mask) s =
    guarded .hostCommand s (runFrame port1Mask port2Mask s) := rfl

theorem exec_deliveredQuery : exec .deliveredQuery s =
    guarded .hostCommand s { s with reply := .bit s.sup.nmiDelivered } := rfl

theorem exec_setTimeout (duration : BitVec 24) : exec (.setTimeout duration) s =
    guarded .hostCommand s { s with sup := { s.sup with timeout := duration.toNat }, reply := .ok } := rfl

theorem exec_schedStat : exec .schedStat s =
    guarded .hostCommand s { s with reply := .stat s.sched.pendingSkips s.sched.skippedCount } := rfl

theorem exec_supInit : exec .supInit s =
    guarded .restart s { s with sup := Sup.init s.cfg, reply := .ok } := rfl

/-- An admitted operation answers its effect. -/
theorem guarded_next {c : OpClass} {s : State} (h : admission s.sup.phase s.issuer c = none) (t : State) :
    guarded c s t = .next t := by
  simp [guarded, h]

/-- A guarded operation answers its effect, in an admitted state, and nothing else. -/
theorem guarded_eq_next_iff {c : OpClass} {s t t' : State} :
    guarded c s t = .next t' ↔ admission s.sup.phase s.issuer c = none ∧ t = t' := by
  unfold guarded
  cases admission s.sup.phase s.issuer c <;> simp

theorem guarded_refused {c : OpClass} {s : State} {r : Refusal} (h : admission s.sup.phase s.issuer c = some r) (t : State) :
    guarded c s t = .refused r := by
  simp [guarded, h]

theorem admission_bus : admission s.sup.phase s.issuer .bus = none ↔ s.busAdmitted := by
  unfold State.busAdmitted
  cases s.sup.phase <;> cases s.issuer <;> simp [admission]

theorem admission_handlerCommand : admission s.sup.phase s.issuer .handlerCommand = none ↔ s.busAdmitted := by
  unfold State.busAdmitted
  cases s.sup.phase <;> cases s.issuer <;> simp [admission]

theorem admission_hostCommand : admission s.sup.phase s.issuer .hostCommand = none ↔ s.commandAdmitted := by
  unfold State.commandAdmitted
  cases s.sup.phase <;> cases s.issuer <;> simp [admission]

theorem admission_restart : admission s.sup.phase s.issuer .restart = none ↔ s.restartAdmitted := by
  unfold State.restartAdmitted
  cases s.sup.phase <;> cases s.issuer <;> simp [admission]

/-- Every operation is a guarded effect of its own class. -/
theorem exec_guarded (i : Instr) : ∃ t, exec i s = guarded (opClass i) s t := by
  cases i <;> exact ⟨_, rfl⟩

/-- An operation that answers a state was admitted. -/
theorem admitted_of_exec_next {i : Instr} {s t : State} (h : exec i s = .next t) :
    admission s.sup.phase s.issuer (opClass i) = none := by
  obtain ⟨u, hu⟩ := exec_guarded s i
  rw [hu, guarded_eq_next_iff] at h
  exact h.1

end Sys2Proof.Machine
end

