-- ==== Sys2Proof/Laws/Operands.lean ====
section
/-! SUPPORT. What the block's arithmetic computes, in numbers and in bits (20_memory R99, 10_state R26). -/

namespace Sys2Proof.Machine

theorem zext8_eq (b : Bool) : zext8 b = if b then 0x01 else 0x00 := by cases b <;> rfl

theorem s0Threshold_pos {cfg : Config} (h : cfg.wf = true) : 1 ≤ cfg.s0Threshold := by
  simp only [Config.wf, Bool.and_eq_true, decide_eq_true_eq] at h
  exact h.1.1.2

theorem statusBits_ne {cfg : Config} (h : cfg.wf = true) : cfg.statusVblankBit ≠ cfg.statusS0hitBit := by
  simp only [Config.wf, Bool.and_eq_true, bne_iff_ne, ne_eq] at h
  exact h.1.1.1.2

theorem indices_nodup {cfg : Config} (h : cfg.wf = true) : cfg.indices.Nodup := by
  simp only [Config.wf, Bool.and_eq_true, decide_eq_true_eq] at h
  exact h.1.2

/-- Each register stands at its index. -/
theorem ppuRegister_index {cfg : Config} (h : cfg.wf = true) :
    ppuRegister cfg cfg.idxCtrl = .ctrl ∧ ppuRegister cfg cfg.idxMask = .mask ∧ ppuRegister cfg cfg.idxStatus = .status ∧
    ppuRegister cfg cfg.idxOamAddr = .oamAddr ∧ ppuRegister cfg cfg.idxOamData = .oamData ∧
    ppuRegister cfg cfg.idxScroll = .scroll ∧ ppuRegister cfg cfg.idxAddr = .addr ∧ ppuRegister cfg cfg.idxData = .data := by
  have hn := indices_nodup h
  simp only [Config.indices, List.nodup_cons, List.mem_cons, List.not_mem_nil, or_false, not_or] at hn
  obtain ⟨⟨a1, a2, a3, a4, a5, a6, a7⟩, ⟨b2, b3, b4, b5, b6, b7⟩, ⟨c3, c4, c5, c6, c7⟩, ⟨d4, d5, d6, d7⟩, ⟨e5, e6, e7⟩, ⟨f6, f7⟩,
    g7, -⟩ := hn
  unfold ppuRegister
  refine ⟨if_pos rfl, ?_, ?_, ?_, ?_, ?_, ?_, ?_⟩ <;> simp [*, Ne.symm, eq_comm]

/-- What a configuration within its constraints says of its sizes. -/
theorem sizes_of_wf {cfg : Config} (h : cfg.wf = true) :
    (∃ k, k ≤ 16 ∧ cfg.vramSize = 2 ^ k) ∧ cfg.vramMask.toNat + 1 = cfg.vramSize ∧ 256 % cfg.oamSize = 0 ∧ cfg.nPorts ≤ 2 := by
  simp only [Config.wf, Config.sizesWf, Bool.and_eq_true, List.any_eq_true, beq_iff_eq, decide_eq_true_eq, List.mem_range] at h
  obtain ⟨-, ⟨⟨⟨k, hk, hv⟩, hm⟩, ho⟩, hn⟩ := h
  exact ⟨⟨k, by omega, hv⟩, hm, ho, hn⟩

theorem vramSize_pos {cfg : Config} (h : cfg.wf = true) : 0 < cfg.vramSize := by
  have := (sizes_of_wf h).2.1
  omega

theorem oamSize_pos {cfg : Config} (h : cfg.wf = true) : 0 < cfg.oamSize := by
  have := (sizes_of_wf h).2.2.1
  by_contra h0
  simp [show cfg.oamSize = 0 by omega] at this

/-- Masking is reduction modulo the size of VRAM. -/
theorem vramIndex_toNat {cfg : Config} (h : cfg.wf = true) (x : BitVec 16) :
    (vramIndex cfg x).toNat = x.toNat % cfg.vramSize := by
  obtain ⟨⟨k, -, hk⟩, hm, -⟩ := sizes_of_wf h
  rw [vramIndex, BitVec.toNat_and, show cfg.vramMask.toNat = 2 ^ k - 1 by omega, Nat.and_two_pow_sub_one_eq_mod, hk]

theorem vramIndex_lt {cfg : Config} (h : cfg.wf = true) (x : BitVec 16) : (vramIndex cfg x).toNat < cfg.vramSize := by
  rw [vramIndex_toNat h]
  exact Nat.mod_lt _ (vramSize_pos h)

theorem vramAdvance_toNat {cfg : Config} (h : cfg.wf = true) (n : Nat) (x : BitVec 16) :
    (vramAdvance cfg n x).toNat = (x.toNat % cfg.vramSize + n) % cfg.vramSize := by
  obtain ⟨⟨k, hk16, hk⟩, -⟩ := sizes_of_wf h
  have hd : cfg.vramSize ∣ 2 ^ 16 := hk ▸ Nat.pow_dvd_pow 2 hk16
  rw [vramAdvance, vramIndex_toNat h, BitVec.toNat_add, BitVec.toNat_ofNat, vramIndex_toNat h, Nat.mod_mod_of_dvd _ hd,
    Nat.add_mod, Nat.mod_mod_of_dvd _ hd, ← Nat.add_mod]

theorem oamIndex_lt {cfg : Config} (h : cfg.wf = true) (a : Byte) : oamIndex cfg a < cfg.oamSize :=
  Nat.mod_lt _ (oamSize_pos h)

/-- The 8-bit address and the size of OAM wrap together. -/
theorem oamIndex_add {cfg : Config} (h : cfg.wf = true) (a : Byte) (j : Nat) :
    oamIndex cfg (a + BitVec.ofNat 8 j) = (a.toNat + j) % cfg.oamSize := by
  have hd : cfg.oamSize ∣ 2 ^ 8 := Nat.dvd_of_mod_eq_zero (sizes_of_wf h).2.2.1
  rw [oamIndex, BitVec.toNat_add, BitVec.toNat_ofNat, Nat.mod_mod_of_dvd _ hd, Nat.add_mod, Nat.mod_mod_of_dvd _ hd,
    ← Nat.add_mod]

theorem padOf_port0 {cfg : Config} (h : 0 < cfg.nPorts) : padOf cfg 0 = some .port0 := by
  simp [padOf, Option.filter, hasPort, h]

theorem padOf_port1 {cfg : Config} (h : 1 < cfg.nPorts) : padOf cfg 1 = some .port1 := by
  simp [padOf, Option.filter, hasPort, h]

/-- Every other port operand, and that of a port that does not exist, selects none. -/
theorem padOf_out {cfg : Config} {port : Byte} (h : 2 ≤ port.toNat ∨ cfg.nPorts ≤ port.toNat) : padOf cfg port = none := by
  unfold padOf
  by_cases h0 : port = 0
  · subst h0
    simp at h
    simp [Option.filter, hasPort, h]
  · by_cases h1 : port = 1
    · subst h1
      simp at h
      simp [Option.filter, hasPort, h]
    · rw [if_neg h0, if_neg h1, Option.filter_none]

theorem hasPort_of_padOf {cfg : Config} {port : Byte} {p : PadPort} (h : padOf cfg port = some p) : hasPort cfg p = true := by
  simpa using (Option.filter_eq_some_iff.1 h).2

/-- The high-byte write keeps the low byte. -/
theorem setHighByte_eq (x : BitVec 16) (v : Byte) : setHighByte x v = v ++ x.extractLsb' 0 8 := by
  apply BitVec.eq_of_getLsbD_eq
  intro j hj
  simp only [setHighByte, BitVec.getLsbD_or, BitVec.getLsbD_shiftLeft, BitVec.getLsbD_setWidth, BitVec.getLsbD_append,
    BitVec.getLsbD_and, BitVec.getLsbD_extractLsb']
  interval_cases j <;> simp

/-- The low-byte write keeps the high byte. -/
theorem setLowByte_eq (x : BitVec 16) (v : Byte) : setLowByte x v = x.extractLsb' 8 8 ++ v := by
  apply BitVec.eq_of_getLsbD_eq
  intro j hj
  simp only [setLowByte, BitVec.getLsbD_or, BitVec.getLsbD_setWidth, BitVec.getLsbD_append, BitVec.getLsbD_and,
    BitVec.getLsbD_extractLsb']
  interval_cases j <;> simp

/-- A serial shift puts the fill bit on top and moves every other bit down. -/
theorem serialShift_getLsbD (fill : Bool) (r : Byte) (k : Nat) (hk : k < 8) :
    (serialShift fill r).getLsbD k = if k = 7 then fill else r.getLsbD (k + 1) := by
  unfold serialShift
  cases fill <;> interval_cases k <;> simp [zext8]

/-- A flag placed at position `n` of a byte. -/
theorem zext8_shiftLeft_getLsbD (b : Bool) (n k : Nat) (hk : k < 8) :
    (zext8 b <<< n).getLsbD k = (b && decide (k = n)) := by
  rw [zext8, BitVec.getLsbD_shiftLeft, BitVec.getLsbD_setWidth]
  by_cases hn : k < n
  · simp [hn, show k ≠ n by omega]
  · by_cases he : k = n
    · subst he; simp [hk]
    · rw [BitVec.getLsbD_of_ge _ _ (show 1 ≤ k - n by omega)]
      simp [he]

/-- The two flags of the status byte and its zero bits, where the flags' positions differ. -/
theorem statusByte_getLsbD {cfg : Config} (h : cfg.statusVblankBit ≠ cfg.statusS0hitBit) (p : Ppu) (k : Nat) (hk : k < 8) :
    (statusByte cfg p).getLsbD k =
      if k = cfg.statusVblankBit.val then p.vblank else if k = cfg.statusS0hitBit.val then p.sprite0Hit else false := by
  have hne : cfg.statusVblankBit.val ≠ cfg.statusS0hitBit.val := fun e => h (Fin.ext e)
  rw [statusByte, BitVec.getLsbD_or, zext8_shiftLeft_getLsbD _ _ _ hk, zext8_shiftLeft_getLsbD _ _ _ hk]
  split
  · next hv => simp [hv, hne]
  · next hv => split <;> simp_all

end Sys2Proof.Machine
end

