-- ==== Sys2Proof/Laws/Memory.lean ====
section
/-! SUPPORT. The laws of memory: read after write, the canonical form kept, canonical memories that read alike are equal, and what the
256-byte copy leaves (20_memory R81 to R83, 41_ppu_registers R189). -/

namespace Sys2Proof.Machine

namespace Memory

theorem toNat_one : (1 : Byte).toNat = 1 := rfl

@[simp] theorem read_nil (a : Nat) : read [] a = unlisted := rfl

theorem read_below {lo size : Nat} {m : Memory} (h : wfFrom lo size m = true) {a : Nat} (ha : a < lo) :
    read m a = unlisted := by
  induction m generalizing lo with
  | nil => rfl
  | cons e m ih =>
    obtain ⟨k, v⟩ := e
    simp only [wfFrom, Bool.and_eq_true, decide_eq_true_eq] at h
    obtain ⟨⟨⟨hlo, -⟩, -⟩, hrest⟩ := h
    simp only [read]
    rw [if_neg (by omega)]
    exact ih hrest (by omega)

/-- A byte other than the one written reads as before, in any list. -/
theorem read_write_other (m : Memory) {a b : Nat} (v : Byte) (hab : b ≠ a) : read (write m a v) b = read m b := by
  induction m with
  | nil => simp only [write]; split <;> simp [read, hab]
  | cons e m ih =>
    obtain ⟨k, x⟩ := e
    simp only [write]
    split
    · split <;> simp [read, hab]
    · split
      · next h => subst h; split <;> simp [read, hab]
      · simp [read, ih]

/-- The byte written reads back. -/
theorem read_write_same {lo size : Nat} {m : Memory} (h : wfFrom lo size m = true) (a : Nat) (v : Byte) :
    read (write m a v) a = v := by
  induction m generalizing lo with
  | nil => simp only [write]; split <;> simp [read, *]
  | cons e m ih =>
    obtain ⟨k, x⟩ := e
    simp only [wfFrom, Bool.and_eq_true, decide_eq_true_eq] at h
    obtain ⟨⟨⟨hlo, -⟩, -⟩, hrest⟩ := h
    simp only [write]
    split
    · split
      · next hv => rw [read, if_neg (by omega), hv]; exact read_below hrest (by omega)
      · simp [read]
    · split
      · next hk =>
        split
        · next hv => rw [hv]; exact read_below hrest (by omega)
        · simp [read]
      · next hk => rw [read, if_neg hk]; exact ih hrest

theorem wfFrom_mono {lo lo' size : Nat} {m : Memory} (h : wfFrom lo size m = true) (hl : lo' ≤ lo) :
    wfFrom lo' size m = true := by
  cases m with
  | nil => rfl
  | cons e m =>
    obtain ⟨k, v⟩ := e
    simp only [wfFrom, Bool.and_eq_true, decide_eq_true_eq] at h ⊢
    exact ⟨⟨⟨by omega, h.1.1.2⟩, h.1.2⟩, h.2⟩

theorem write_wfFrom {lo size : Nat} {m : Memory} (h : wfFrom lo size m = true) {a : Nat} (v : Byte) (hlo : lo ≤ a)
    (ha : a < size) : wfFrom lo size (write m a v) = true := by
  induction m generalizing lo with
  | nil => simp only [write]; split <;> simp [wfFrom, *]
  | cons e m ih =>
    obtain ⟨k, x⟩ := e
    have h0 := h
    simp only [wfFrom, Bool.and_eq_true, decide_eq_true_eq] at h
    obtain ⟨⟨⟨hk, hks⟩, hx⟩, hrest⟩ := h
    simp only [write]
    split
    · split
      · exact h0
      · next hak hv =>
        have := wfFrom_mono hrest (Nat.le_refl _)
        simp only [wfFrom, Bool.and_eq_true, decide_eq_true_eq]
        exact ⟨⟨⟨hlo, ha⟩, by simpa using hv⟩, ⟨⟨by omega, hks⟩, hx⟩, hrest⟩
    · split
      · split
        · exact wfFrom_mono hrest (by omega)
        · next hv =>
          simp only [wfFrom, Bool.and_eq_true, decide_eq_true_eq]
          exact ⟨⟨⟨hlo, ha⟩, by simpa using hv⟩, by subst_vars; exact hrest⟩
      · simp only [wfFrom, Bool.and_eq_true, decide_eq_true_eq]
        exact ⟨⟨⟨hk, hks⟩, hx⟩, ih hrest (by omega)⟩

/-- A write inside the space keeps the canonical form. -/
theorem write_wf {size : Nat} {m : Memory} (h : wf size m = true) {a : Nat} (v : Byte) (ha : a < size) :
    wf size (write m a v) = true :=
  write_wfFrom h v (Nat.zero_le _) ha

theorem read_write {size : Nat} {m : Memory} (h : wf size m = true) (a b : Nat) (v : Byte) :
    read (write m a v) b = if b = a then v else read m b := by
  split
  · next hb => subst hb; exact read_write_same h b v
  · next hb => exact read_write_other m v hb

theorem ext_from {lo size : Nat} {m n : Memory} (hm : wfFrom lo size m = true) (hn : wfFrom lo size n = true)
    (h : ∀ a, read m a = read n a) : m = n := by
  induction m generalizing n lo with
  | nil =>
    cases n with
    | nil => rfl
    | cons e n =>
      obtain ⟨k, v⟩ := e
      simp only [wfFrom, Bool.and_eq_true, decide_eq_true_eq, bne_iff_ne] at hn
      have := h k
      simp only [read, if_true] at this
      exact absurd this.symm hn.1.2
  | cons e m ih =>
    obtain ⟨k, v⟩ := e
    simp only [wfFrom, Bool.and_eq_true, decide_eq_true_eq, bne_iff_ne] at hm
    cases n with
    | nil =>
      have := h k
      simp only [read, if_true] at this
      exact absurd this hm.1.2
    | cons e' n =>
      obtain ⟨k', v'⟩ := e'
      simp only [wfFrom, Bool.and_eq_true, decide_eq_true_eq, bne_iff_ne] at hn
      have hkk : k = k' := by
        rcases Nat.lt_trichotomy k k' with hlt | heq | hgt
        · have := h k
          simp only [read, if_true] at this
          rw [if_neg (by omega), read_below hn.2 (by omega)] at this
          exact absurd this hm.1.2
        · exact heq
        · have := h k'
          simp only [read, if_true] at this
          rw [if_neg (by omega), read_below hm.2 (by omega)] at this
          exact absurd this.symm hn.1.2
      subst hkk
      have hv : v = v' := by simpa [read] using h k
      subst hv
      congr 1
      apply ih hm.2 hn.2
      intro a
      by_cases hak : a = k
      · subst hak; rw [read_below hm.2 (by omega), read_below hn.2 (by omega)]
      · simpa [read, hak] using h a

/-- Canonical memories that read alike are the same list. -/
theorem ext_of_wf {size : Nat} {m n : Memory} (hm : wf size m = true) (hn : wf size n = true)
    (h : ∀ a, read m a = read n a) : m = n :=
  ext_from hm hn h

variable {cfg : Config}

theorem copyBytes_wf (hc : cfg.wf = true) {m : Memory} (h : wf cfg.oamSize m = true) (start : Byte) (bs : List Byte) :
    wf cfg.oamSize (copyBytes cfg m start bs) = true := by
  induction bs generalizing m start with
  | nil => exact h
  | cons b bs ih => exact ih (write_wf h b (oamIndex_lt hc start)) _

/-- An address the copy does not reach reads as before. -/
theorem copyBytes_read_other (m : Memory) (start : Byte) (bs : List Byte) (a : Nat)
    (ha : ∀ j, j < bs.length → a ≠ oamIndex cfg (start + BitVec.ofNat 8 j)) :
    read (copyBytes cfg m start bs) a = read m a := by
  induction bs generalizing m start with
  | nil => rfl
  | cons b bs ih =>
    rw [copyBytes, ih, read_write_other]
    · simpa using ha 0 (by simp)
    · intro j hj he
      refine ha (j + 1) (by simp; omega) ?_
      rw [he]
      congr 1
      apply BitVec.eq_of_toNat_eq
      simp only [BitVec.toNat_add, BitVec.toNat_ofNat, toNat_one]
      omega

/-- Byte `j` of a copy stands `j` beyond the start, modulo the size of OAM, if the copy does not come around to it again. -/
theorem copyBytes_read (hc : cfg.wf = true) {m : Memory} (h : wf cfg.oamSize m = true) (start : Byte) (bs : List Byte) (j : Nat)
    (hj : j < bs.length) (hl : bs.length ≤ j + cfg.oamSize) :
    read (copyBytes cfg m start bs) ((start.toNat + j) % cfg.oamSize) = bs[j] := by
  induction bs generalizing m start j with
  | nil => simp at hj
  | cons b bs ih =>
    simp only [List.length_cons] at hj hl
    cases j with
    | zero =>
      rw [copyBytes, copyBytes_read_other]
      · exact read_write_same h _ _
      · intro i hi he
        rw [show start + 1 + BitVec.ofNat 8 i = start + BitVec.ofNat 8 (i + 1) by
          apply BitVec.eq_of_toNat_eq; simp only [BitVec.toNat_add, BitVec.toNat_ofNat, toNat_one]; omega, oamIndex_add hc] at he
        have := Nat.sub_mod_eq_zero_of_mod_eq he.symm
        rw [show start.toNat + (i + 1) - (start.toNat + 0) = i + 1 by omega, Nat.mod_eq_of_lt (by omega)] at this
        omega
    | succ j =>
      have := ih (write_wf h b (oamIndex_lt hc start)) (start + 1) j (by omega) (by omega)
      rw [← oamIndex_add hc, show start + 1 + BitVec.ofNat 8 j = start + BitVec.ofNat 8 (j + 1) by
        apply BitVec.eq_of_toNat_eq; simp only [BitVec.toNat_add, BitVec.toNat_ofNat, toNat_one]; omega, oamIndex_add hc] at this
      rw [copyBytes]
      exact this

end Memory

/-- The DMA source of byte `i` is flat address `page * 256 + i` (30_encoding R126). -/
theorem dmaSource_toNat (page i : Byte) : (dmaSource page i).toNat = page.toNat * 256 + i.toNat := by
  have hp := page.isLt
  have hi := i.isLt
  have : dmaSource page i = page ++ i := by
    apply BitVec.eq_of_getLsbD_eq
    intro j hj
    simp only [dmaSource, BitVec.getLsbD_or, BitVec.getLsbD_shiftLeft, BitVec.getLsbD_setWidth, BitVec.getLsbD_append]
    by_cases h8 : j < 8
    · simp [h8, hj]
    · have : j - 8 < 16 := by omega
      simp [h8, hj, this, BitVec.getLsbD_of_ge i j (by omega)]
  rw [this, BitVec.toNat_append, Nat.shiftLeft_eq, Nat.mul_comm, ← Nat.two_pow_add_eq_or_of_lt hi]

theorem dmaBytes_length (m : Memory) (page : Byte) : (dmaBytes m page).length = 256 := by
  simp [dmaBytes]

theorem dmaBytes_get (m : Memory) (page : Byte) (i : Nat) (hi : i < 256) :
    (dmaBytes m page)[i]'(by rw [dmaBytes_length]; exact hi) = m.read (page.toNat * 256 + i) := by
  simp only [dmaBytes, List.getElem_map, List.getElem_range, dmaSource_toNat]
  congr 2
  simp; omega

end Sys2Proof.Machine
end

