-- ==== Sys2Proof/Laws/Ops.lean ====
section
/-! SUPPORT. What the shared operations leave: exceptions, endings, a frame, the scheduler's two steps. -/

namespace Sys2Proof.Machine

variable (s : State)

/-- All an exception changes (45_frame_supervisor R285). -/
theorem raise_handlerFault (e : ErrorValue) : raiseException (.handlerFault e) s =
    { s with
      sup := { s.sup with lastHandlerError := some (s.sup.frameCounter, e), phase := .idle
                          frameCounter := s.sup.frameCounter + 1 }
      reply := .raisedFault s.sup.frameCounter e } := rfl

/-- All an exception changes (45_frame_supervisor R286). -/
theorem raise_handlerTimeout : raiseException .handlerTimeout s =
    { s with
      sup := { s.sup with snapshot := some (makeSnapshot s.sup.frameCounter s), phase := .halted
                          frameCounter := s.sup.frameCounter + 1 }
      reply := .raisedTimeout (makeSnapshot s.sup.frameCounter s) } := rfl

theorem endHandler_eq_next_iff {s t t' : State} :
    endHandler s t = .next t' ↔ s.sup.phase = .inHandler ∧ t = t' := by
  unfold endHandler; cases s.sup.phase <;> simp

theorem watchdogExpires_eq_next_iff {s t : State} :
    watchdogExpires s = .next t ↔ s.sup.phase = .inHandler ∧ raiseException .handlerTimeout s = t := by
  unfold watchdogExpires; cases s.sup.phase <;> simp

/-- Any mode but 0 and 1 leaves the count (44_nmi_scheduler R263). -/
theorem skipsAtMode_other (cfg : Config) {mode : Byte} (h0 : mode ≠ 0) (h1 : mode ≠ 1) (n : Nat) :
    skipsAtMode cfg mode n = n := by
  rw [skipsAtMode, if_neg h0, if_neg h1]

namespace Sched

variable (cfg : Config) (d : Sched) (task mode : Byte)

@[simp] theorem transitionStep_prevTask : (d.transitionStep cfg task mode).prevTask = task := by
  unfold transitionStep record; split <;> (try split) <;> rfl

@[simp] theorem transitionStep_prevMode : (d.transitionStep cfg task mode).prevMode = mode := by
  unfold transitionStep record; split <;> (try split) <;> rfl

@[simp] theorem transitionStep_isFirstFrame : (d.transitionStep cfg task mode).isFirstFrame = false := by
  unfold transitionStep record; split <;> (try split) <;> simp_all

@[simp] theorem transitionStep_nmiPending : (d.transitionStep cfg task mode).nmiPending = d.nmiPending := by
  unfold transitionStep record; split <;> (try split) <;> rfl

@[simp] theorem transitionStep_skippedCount : (d.transitionStep cfg task mode).skippedCount = d.skippedCount := by
  unfold transitionStep record; split <;> (try split) <;> rfl

/-- The tick keeps the count but on the 0 to 1 task transition of a later call (44_nmi_scheduler R262, R263). -/
theorem transitionStep_pendingSkips : (d.transitionStep cfg task mode).pendingSkips =
    if d.isFirstFrame = false ∧ d.prevTask = 0 ∧ task = 1 then skipsAtMode cfg mode d.pendingSkips else d.pendingSkips := by
  unfold transitionStep record
  cases d.isFirstFrame <;> simp
  split <;> rfl

variable (due : Bool)

@[simp] theorem dueStep_prevTask : (d.dueStep due).prevTask = d.prevTask := by
  unfold dueStep; split <;> (try split) <;> rfl

@[simp] theorem dueStep_prevMode : (d.dueStep due).prevMode = d.prevMode := by
  unfold dueStep; split <;> (try split) <;> rfl

@[simp] theorem dueStep_isFirstFrame : (d.dueStep due).isFirstFrame = d.isFirstFrame := by
  unfold dueStep; split <;> (try split) <;> rfl

/-- The due step alone keeps the sum of pending and skipped (44_nmi_scheduler R268). -/
theorem dueStep_sum : (d.dueStep due).pendingSkips + (d.dueStep due).skippedCount = d.pendingSkips + d.skippedCount := by
  unfold dueStep
  split
  · split
    · simp only; omega
    · rfl
  · rfl

theorem dueStep_pendingSkips :
    (d.dueStep due).pendingSkips = if due = true then d.pendingSkips - 1 else d.pendingSkips := by
  unfold dueStep
  cases due
  · rfl
  · by_cases h : 0 < d.pendingSkips
    · simp [h]
    · simp [show d.pendingSkips = 0 by omega]

theorem dueStep_skippedCount : (d.dueStep due).skippedCount =
    if due = true ∧ 0 < d.pendingSkips then d.skippedCount + 1 else d.skippedCount := by
  unfold dueStep
  cases due
  · simp
  · by_cases h : 0 < d.pendingSkips <;> simp [h]

theorem dueStep_nmiPending :
    (d.dueStep due).nmiPending = (d.nmiPending || (due && decide (d.pendingSkips = 0))) := by
  unfold dueStep
  cases due
  · simp
  · by_cases h : 0 < d.pendingSkips
    · simp [h, show d.pendingSkips ≠ 0 by omega]
    · simp [show d.pendingSkips = 0 by omega]

end Sched

/-- A frame's prologue changes the controller's buttons, the PPU's flags, the scheduler and the delivered bit, nothing else
(45_frame_supervisor R282). -/
theorem frameStart_eq (p1 p2 : Byte) : frameStart p1 p2 s =
    { s with
      ctl := { s.ctl with buttonState := ⟨if 0 < s.cfg.nPorts then p1 else s.ctl.buttonState.port0,
                                          if 1 < s.cfg.nPorts then p2 else s.ctl.buttonState.port1⟩ }
      ppu := s.ppu.endVblank.beginVblank
      sched := (s.sched.transitionStep s.cfg (memRead s s.cfg.aTask) (memRead s s.cfg.aMode)).dueStep (nmiEnabled s.cfg s.ppu)
      sup := { s.sup with nmiDelivered := false } } := by
  unfold frameStart schedTick beginVblank endVblank setButtons hasPort
  by_cases h0 : 0 < s.cfg.nPorts <;> by_cases h1 : 1 < s.cfg.nPorts <;> simp [h0, h1] <;> first | exact ⟨rfl, rfl⟩ | rfl

/-- The two ends of the command's step (45_frame_supervisor R282). -/
theorem runFrame_cases (p1 p2 : Byte) :
    ((frameStart p1 p2 s).sched.nmiPending = true ∧ runFrame p1 p2 s = deliverNmi (frameStart p1 p2 s)) ∨
    ((frameStart p1 p2 s).sched.nmiPending = false ∧ runFrame p1 p2 s = finishFrame (frameStart p1 p2 s)) := by
  unfold runFrame
  cases h : (frameStart p1 p2 s).sched.nmiPending <;> simp [h]

theorem statusRead_counterWf {cfg : Config} {p : Ppu} (h : p.counterWf cfg) : (p.statusRead cfg).counterWf cfg := by
  obtain ⟨h1, h2⟩ := h
  unfold Ppu.counterWf
  simp only [Ppu.statusRead_statusReads, Ppu.statusRead_sprite0Hit]
  cases hs : p.sprite0Hit
  · have := h2 hs
    simp
    omega
  · simpa using h1

end Sys2Proof.Machine
end

