-- ==== Sys2Proof/Laws/PerInstr.lean ====
section
/-! SUPPORT. Per operation: the fields the decoder reads back from its encoding are the ones it was written with. -/

namespace Sys2Proof.Laws.EncodedFields

/-- The selecting fields of the word of `i`: direction and address of a BUS word, code of a command (30_encoding R120, R122). -/
def Statement (i : Instr) : Prop :=
  ∀ cfg : Config, match encode cfg i with
    | .bus t => busRw t = isWrite i ∧ some (busAddr t) = addressOf cfg i
    | .cmd c => some (cmdOp c) = codeOf i

theorem ppuWr0Ctrl (a : Addr) (v : Byte) : Statement (.ppuWr0Ctrl a v) :=
  fun _ => ⟨busRw_busWord _ _ _, congrArg some (busAddr_busWord _ _ _)⟩

theorem ppuWr1Mask (a : Addr) (v : Byte) : Statement (.ppuWr1Mask a v) :=
  fun _ => ⟨busRw_busWord _ _ _, congrArg some (busAddr_busWord _ _ _)⟩

theorem ppuWr2Status (a : Addr) (v : Byte) : Statement (.ppuWr2Status a v) :=
  fun _ => ⟨busRw_busWord _ _ _, congrArg some (busAddr_busWord _ _ _)⟩

theorem ppuWr3Oamaddr (a : Addr) (v : Byte) : Statement (.ppuWr3Oamaddr a v) :=
  fun _ => ⟨busRw_busWord _ _ _, congrArg some (busAddr_busWord _ _ _)⟩

theorem ppuWr4Oamdata (a : Addr) (v : Byte) : Statement (.ppuWr4Oamdata a v) :=
  fun _ => ⟨busRw_busWord _ _ _, congrArg some (busAddr_busWord _ _ _)⟩

theorem ppuWr5Scroll (a : Addr) (v : Byte) : Statement (.ppuWr5Scroll a v) :=
  fun _ => ⟨busRw_busWord _ _ _, congrArg some (busAddr_busWord _ _ _)⟩

theorem ppuWr6Addr (a : Addr) (v : Byte) : Statement (.ppuWr6Addr a v) :=
  fun _ => ⟨busRw_busWord _ _ _, congrArg some (busAddr_busWord _ _ _)⟩

theorem ppuWr7Data (a : Addr) (v : Byte) : Statement (.ppuWr7Data a v) :=
  fun _ => ⟨busRw_busWord _ _ _, congrArg some (busAddr_busWord _ _ _)⟩

theorem ppuRd0Ctrl (a : Addr) : Statement (.ppuRd0Ctrl a) :=
  fun _ => ⟨busRw_busWord _ _ _, congrArg some (busAddr_busWord _ _ _)⟩

theorem ppuRd1Mask (a : Addr) : Statement (.ppuRd1Mask a) :=
  fun _ => ⟨busRw_busWord _ _ _, congrArg some (busAddr_busWord _ _ _)⟩

theorem ppuRd2Status (a : Addr) : Statement (.ppuRd2Status a) :=
  fun _ => ⟨busRw_busWord _ _ _, congrArg some (busAddr_busWord _ _ _)⟩

theorem ppuRd3Oamaddr (a : Addr) : Statement (.ppuRd3Oamaddr a) :=
  fun _ => ⟨busRw_busWord _ _ _, congrArg some (busAddr_busWord _ _ _)⟩

theorem ppuRd4Oamdata (a : Addr) : Statement (.ppuRd4Oamdata a) :=
  fun _ => ⟨busRw_busWord _ _ _, congrArg some (busAddr_busWord _ _ _)⟩

theorem ppuRd5Scroll (a : Addr) : Statement (.ppuRd5Scroll a) :=
  fun _ => ⟨busRw_busWord _ _ _, congrArg some (busAddr_busWord _ _ _)⟩

theorem ppuRd6Addr (a : Addr) : Statement (.ppuRd6Addr a) :=
  fun _ => ⟨busRw_busWord _ _ _, congrArg some (busAddr_busWord _ _ _)⟩

theorem ppuRd7Data (a : Addr) : Statement (.ppuRd7Data a) :=
  fun _ => ⟨busRw_busWord _ _ _, congrArg some (busAddr_busWord _ _ _)⟩

theorem oamdmaWr (page : Byte) : Statement (.oamdmaWr page) :=
  fun _ => ⟨busRw_busWord _ _ _, congrArg some (busAddr_busWord _ _ _)⟩

theorem strobeWr (value : Byte) : Statement (.strobeWr value) :=
  fun _ => ⟨busRw_busWord _ _ _, congrArg some (busAddr_busWord _ _ _)⟩

theorem pad0Rd : Statement .pad0Rd :=
  fun _ => ⟨busRw_busWord _ _ _, congrArg some (busAddr_busWord _ _ _)⟩

theorem pad1Rd : Statement .pad1Rd :=
  fun _ => ⟨busRw_busWord _ _ _, congrArg some (busAddr_busWord _ _ _)⟩

theorem memRd (a : Addr) : Statement (.memRd a) :=
  fun _ => ⟨busRw_busWord _ _ _, congrArg some (busAddr_busWord _ _ _)⟩

theorem memWr (a : Addr) (v : Byte) : Statement (.memWr a v) :=
  fun _ => ⟨busRw_busWord _ _ _, congrArg some (busAddr_busWord _ _ _)⟩

theorem reset : Statement .reset :=
  fun _ => congrArg some (cmdOp_cmdWord _ _)

theorem ctlReset : Statement .ctlReset :=
  fun _ => congrArg some (cmdOp_cmdWord _ _)

theorem setbtn (port mask : Byte) : Statement (.setbtn port mask) :=
  fun _ => congrArg some (cmdOp_cmdWord _ _)

theorem ppuReset : Statement .ppuReset :=
  fun _ => congrArg some (cmdOp_cmdWord _ _)

theorem beginVblank : Statement .beginVblank :=
  fun _ => congrArg some (cmdOp_cmdWord _ _)

theorem endVblank : Statement .endVblank :=
  fun _ => congrArg some (cmdOp_cmdWord _ _)

theorem nmiQuery : Statement .nmiQuery :=
  fun _ => congrArg some (cmdOp_cmdWord _ _)

theorem schedInit : Statement .schedInit :=
  fun _ => congrArg some (cmdOp_cmdWord _ _)

theorem schedTick : Statement .schedTick :=
  fun _ => congrArg some (cmdOp_cmdWord _ _)

theorem skip (n : BitVec 24) : Statement (.skip n) :=
  fun _ => congrArg some (cmdOp_cmdWord _ _)

theorem disable : Statement .disable :=
  fun _ => congrArg some (cmdOp_cmdWord _ _)

theorem runframe (port1Mask port2Mask : Byte) : Statement (.runframe port1Mask port2Mask) :=
  fun _ => congrArg some (cmdOp_cmdWord _ _)

theorem deliveredQuery : Statement .deliveredQuery :=
  fun _ => congrArg some (cmdOp_cmdWord _ _)

theorem setTimeout (duration : BitVec 24) : Statement (.setTimeout duration) :=
  fun _ => congrArg some (cmdOp_cmdWord _ _)

theorem schedStat : Statement .schedStat :=
  fun _ => congrArg some (cmdOp_cmdWord _ _)

theorem supInit : Statement .supInit :=
  fun _ => congrArg some (cmdOp_cmdWord _ _)

end Sys2Proof.Laws.EncodedFields
end

