-- ==== Sys2Proof/Laws/Step.lean ====
section
/-! SUPPORT. Once, everything a step can be: every claim about all steps starts from step_next_cases. -/

namespace Sys2Proof.Machine

theorem step_idle {s : State} (h : s.inputs = []) : step s = .next s := by
  simp [step, h]

theorem step_event {s : State} {e : Event} {rest : List Event} (h : s.inputs = e :: rest) :
    step s = runEvent e { s with inputs := rest } := by
  simp [step, h]

theorem runWord_ok {s : State} {ag : Agent} {w : PortWord} {i : Instr} (h : decode s.cfg w = .ok i) :
    runWord ag w s = exec i { s with issuer := ag } := by
  simp [runWord, h, execFor]

theorem runWord_next {s t : State} {ag : Agent} {w : PortWord} (h : runWord ag w s = .next t) :
    ∃ i, decode s.cfg w = .ok i ∧ exec i { s with issuer := ag } = .next t := by
  unfold runWord at h
  split at h
  · next i hi => exact ⟨i, hi, h⟩
  · cases h

/-- What a step that answers a state was (00_scope R11, 45_frame_supervisor R283). -/
theorem step_next_cases {s t : State} (h : step s = .next t) :
    (s.inputs = [] ∧ t = s) ∨
    (∃ rest ag w i, s.inputs = .port ag w :: rest ∧ decode s.cfg w = .ok i ∧
      exec i { s with inputs := rest, issuer := ag } = .next t) ∨
    (∃ rest k, s.inputs = .movieFrame k :: rest ∧
      exec (.runframe (getFrame s.movie k).port1 (getFrame s.movie k).port2) { s with inputs := rest, issuer := .host } = .next t) ∨
    (∃ rest, s.inputs = .handlerReturns :: rest ∧ s.sup.phase = .inHandler ∧
      t = returnFromHandler { s with inputs := rest }) ∨
    (∃ rest e, s.inputs = .handlerFaults e :: rest ∧ s.sup.phase = .inHandler ∧
      t = raiseException (.handlerFault e) { s with inputs := rest }) ∨
    (∃ rest, s.inputs = .watchdogFires :: rest ∧ s.sup.phase = .inHandler ∧
      t = raiseException .handlerTimeout { s with inputs := rest }) := by
  cases hi : s.inputs with
  | nil =>
    rw [step_idle hi] at h
    injection h with h
    exact .inl ⟨rfl, h.symm⟩
  | cons e rest =>
    rw [step_event hi] at h
    right
    cases e with
    | port ag w =>
      obtain ⟨i, hd, he⟩ := runWord_next h
      exact .inl ⟨rest, ag, w, i, rfl, hd, he⟩
    | movieFrame k => exact .inr (.inl ⟨rest, k, rfl, h⟩)
    | handlerReturns =>
      obtain ⟨hp, ht⟩ := endHandler_eq_next_iff.1 h
      exact .inr (.inr (.inl ⟨rest, rfl, hp, ht.symm⟩))
    | handlerFaults e =>
      obtain ⟨hp, ht⟩ := endHandler_eq_next_iff.1 h
      exact .inr (.inr (.inr (.inl ⟨rest, e, rfl, hp, ht.symm⟩)))
    | watchdogFires =>
      obtain ⟨hp, ht⟩ := watchdogExpires_eq_next_iff.1 h
      exact .inr (.inr (.inr (.inr ⟨rest, rfl, hp, ht.symm⟩)))

end Sys2Proof.Machine
end

