-- ==== Sys2Proof/Tests/Slice0.lean ====
section
/-! SUPPORT. The model's own tests: ill-formed terms refused, words of the spec decoded, one-step vectors of 95_test_vectors, and a
concrete witness of the hypotheses of every obligation. Expected values are the spec's. -/

namespace Sys2Proof.Tests

open Sys2Proof Sys2Proof.Machine

/-! ## Small states (95_test_vectors, conventions: A_TASK = 0x0770, A_MODE = 0x0772) -/

def testCfg : Config := { Config.default with aTask := 0x0770, aMode := 0x0772 }

/-- Fresh: after RESET, flat memory all 0x00. -/
def fresh : State :=
  { State.reset with cfg := testCfg, sched := Sched.init testCfg, sup := Sup.init testCfg }

/-- The same with the HANDLER running, its operation at the port. -/
def handling : State :=
  { fresh with issuer := .handler, sup := { fresh.sup with phase := .inHandler, nmiDelivered := true } }

/-- Frame 3 timed out. -/
def stopped : State :=
  { fresh with sup := { fresh.sup with phase := .halted, frameCounter := 4, snapshot := some [("frame", 3)] } }

def withPpu (p : Ppu) : State := { fresh with ppu := p }

def withCtl (c : Ctl) : State := { fresh with ctl := c }

def withSched (d : Sched) : State := { fresh with sched := d }

/-- A later tick's state: vblank and NMI enable set, so a tick is due. -/
def dueState (d : Sched) (mem : Memory) : State :=
  { withSched d with ppu := { Ppu.reset with ctrl := 0x80, vblank := true }, mem := mem }

/-- Other values of R6's parameters (log 28): registers 5 and 6 change places, half of VRAM, OAM of 64 bytes, port 0 alone. -/
def otherCfg : Config :=
  { testCfg with vramSize := 8192, vramMask := 0x1FFF, oamSize := 64, nPorts := 1, idxScroll := 6, idxAddr := 5 }

def underOther (s : State) : State := { s with cfg := otherCfg }

/-- A sequence of operations on the BUS port, issued by the HOST. -/
def hostBus (ts : List (BitVec 25)) : List Event :=
  ts.map fun t => .port .host (.bus t)

/-- The step answers a state of which `p` holds. -/
def leaves (r : StepResult) (p : State → Bool) : Bool :=
  match r with
  | .next t => p t
  | .fault _ => false
  | .refused _ => false

/-! ## WellFormed: one ill-formed term for each check -/

/-- An index reached from another mirror: not this operation's address (30_encoding R124). -/
theorem test_wf_wrongIndex : wellFormed testCfg (.ppuWr0Ctrl 0x2001 0) = false := by decide

theorem test_wf_ppuWrOutside :
    wellFormed testCfg (.ppuWr0Ctrl 0x4000 0) = false ∧ wellFormed testCfg (.ppuWr1Mask 0x1FF9 0) = false ∧
    wellFormed testCfg (.ppuWr2Status 0x2003 0) = false ∧ wellFormed testCfg (.ppuWr3Oamaddr 0x2002 0) = false ∧
    wellFormed testCfg (.ppuWr4Oamdata 0x2005 0) = false ∧ wellFormed testCfg (.ppuWr5Scroll 0x2004 0) = false ∧
    wellFormed testCfg (.ppuWr6Addr 0x2007 0) = false ∧ wellFormed testCfg (.ppuWr7Data 0x1FFF 0) = false := by decide

theorem test_wf_ppuRdOutside :
    wellFormed testCfg (.ppuRd0Ctrl 0x4000) = false ∧ wellFormed testCfg (.ppuRd1Mask 0x2000) = false ∧
    wellFormed testCfg (.ppuRd2Status 0x200B) = false ∧ wellFormed testCfg (.ppuRd3Oamaddr 0x2002) = false ∧
    wellFormed testCfg (.ppuRd4Oamdata 0x2005) = false ∧ wellFormed testCfg (.ppuRd5Scroll 0x2004) = false ∧
    wellFormed testCfg (.ppuRd6Addr 0x2007) = false ∧ wellFormed testCfg (.ppuRd7Data 0x1FFF) = false := by decide

/-- The last address of the second window, and the first beyond it (20_memory R89). -/
theorem test_wf_windowEdges :
    wellFormed testCfg (.ppuRd7Data 0x3FFF) = true ∧ wellFormed testCfg (.memRd 0x3FFF) = false ∧
    wellFormed testCfg (.memRd 0x4000) = true ∧ wellFormed testCfg (.memRd 0x1FFF) = true := by decide

/-- A device address taken by an earlier condition of Decode (43_io_dispatcher R240). -/
theorem test_wf_devicesShadowed :
    wellFormed { testCfg with aOamDma := 0x2000 } (.oamdmaWr 0) = false ∧
    wellFormed { testCfg with aStrobe := 0x3FFF } (.strobeWr 0) = false ∧
    wellFormed { testCfg with aStrobe := 0x4014 } (.strobeWr 0) = false ∧
    wellFormed { testCfg with aPad0 := 0x2002 } .pad0Rd = false ∧
    wellFormed { testCfg with aPad1 := 0x2002 } .pad1Rd = false ∧
    wellFormed { testCfg with aPad1 := 0x4016 } .pad1Rd = false := by decide

theorem test_wf_memRdTaken :
    wellFormed testCfg (.memRd 0x2000) = false ∧ wellFormed testCfg (.memRd 0x4016) = false ∧
    wellFormed testCfg (.memRd 0x4017) = false ∧ wellFormed testCfg (.memRd 0x4014) = true := by decide

theorem test_wf_memWrTaken :
    wellFormed testCfg (.memWr 0x3FFF 0) = false ∧ wellFormed testCfg (.memWr 0x4014 0) = false ∧
    wellFormed testCfg (.memWr 0x4016 0) = false ∧ wellFormed testCfg (.memWr 0x4017 0) = true := by decide

/-- Registers that changed places, and ports that do not exist: the read of a missing port's address passes through. -/
theorem test_wf_otherParameters :
    wellFormed otherCfg (.ppuWr5Scroll 0x2005 0) = false ∧ wellFormed otherCfg (.ppuRd6Addr 0x2006) = false ∧
    wellFormed otherCfg (.ppuWr6Addr 0x2005 0) = true ∧ wellFormed otherCfg .pad1Rd = false ∧
    wellFormed otherCfg (.memRd 0x4017) = true ∧ wellFormed { testCfg with nPorts := 0 } .pad0Rd = false := by decide

/-- Each constraint of `Config.wf` refuses something; R6's defaults and the other values meet them all. -/
theorem test_configWf :
    Config.default.wf = true ∧ otherCfg.wf = true ∧ { testCfg with ctrlIncBit := 7 }.wf = false ∧
    { testCfg with statusVblankBit := 6 }.wf = false ∧ { testCfg with s0Threshold := 0 }.wf = false ∧
    { testCfg with idxScroll := 6 }.wf = false ∧ { testCfg with vramSize := 16383, vramMask := 0x3FFE }.wf = false ∧
    { testCfg with vramMask := 0x1FFF }.wf = false ∧ { testCfg with oamSize := 0 }.wf = false ∧
    { testCfg with oamSize := 96 }.wf = false ∧ { testCfg with nPorts := 3 }.wf = false := by decide

/-! ## Decoding: words written out from {rw, addr, data} and {op, operands} (30_encoding R120, R122, R123), every constructor -/

/-- 1 0010_0000_0000_0iii dddd_dddd; index 6 through the mirror 0x3FFE (V-D3). -/
theorem test_decode_ppuWrites :
    decode Config.default (.bus 0b1_0010000000000000_10000100) = .ok (.ppuWr0Ctrl 0x2000 0x84) ∧
    decode Config.default (.bus 0b1_0010000000000001_11111111) = .ok (.ppuWr1Mask 0x2001 0xFF) ∧
    decode Config.default (.bus 0b1_0010000000000010_00010010) = .ok (.ppuWr2Status 0x2002 0x12) ∧
    decode Config.default (.bus 0b1_0010000000000011_11111100) = .ok (.ppuWr3Oamaddr 0x2003 0xFC) ∧
    decode Config.default (.bus 0b1_0010000000000100_10011001) = .ok (.ppuWr4Oamdata 0x2004 0x99) ∧
    decode Config.default (.bus 0b1_0010000000000101_00001000) = .ok (.ppuWr5Scroll 0x2005 0x08) ∧
    decode Config.default (.bus 0b1_0011111111111110_00100001) = .ok (.ppuWr6Addr 0x3FFE 0x21) ∧
    decode Config.default (.bus 0b1_0010000000000111_10101010) = .ok (.ppuWr7Data 0x2007 0xAA) :=
  ⟨rfl, rfl, rfl, rfl, rfl, rfl, rfl, rfl⟩

/-- The data byte of a read is not examined (30_encoding R120); index 2 through the mirror 0x3FFA (V-D2). -/
theorem test_decode_ppuReads :
    decode Config.default (.bus 0b0_0010000000000000_00000000) = .ok (.ppuRd0Ctrl 0x2000) ∧
    decode Config.default (.bus 0b0_0010000000000001_00000000) = .ok (.ppuRd1Mask 0x2001) ∧
    decode Config.default (.bus 0b0_0011111111111010_11111111) = .ok (.ppuRd2Status 0x3FFA) ∧
    decode Config.default (.bus 0b0_0010000000000011_00000000) = .ok (.ppuRd3Oamaddr 0x2003) ∧
    decode Config.default (.bus 0b0_0010000000000100_00000000) = .ok (.ppuRd4Oamdata 0x2004) ∧
    decode Config.default (.bus 0b0_0010000000000101_00000000) = .ok (.ppuRd5Scroll 0x2005) ∧
    decode Config.default (.bus 0b0_0010000000000110_00000000) = .ok (.ppuRd6Addr 0x2006) ∧
    decode Config.default (.bus 0b0_0010000000000111_00000000) = .ok (.ppuRd7Data 0x2007) :=
  ⟨rfl, rfl, rfl, rfl, rfl, rfl, rfl, rfl⟩

/-- Recognition by address and direction (43_io_dispatcher R247): a read of 0x4014 and a write of 0x4017 pass through. -/
theorem test_decode_otherBus :
    decode Config.default (.bus 0b1_0100000000010100_00000010) = .ok (.oamdmaWr 0x02) ∧
    decode Config.default (.bus 0b1_0100000000010110_00000001) = .ok (.strobeWr 0x01) ∧
    decode Config.default (.bus 0b0_0100000000010110_00000000) = .ok .pad0Rd ∧
    decode Config.default (.bus 0b0_0100000000010111_00000000) = .ok .pad1Rd ∧
    decode Config.default (.bus 0b0_0100000000010100_00000000) = .ok (.memRd 0x4014) ∧
    decode Config.default (.bus 0b1_0100000000010111_01010101) = .ok (.memWr 0x4017 0x55) :=
  ⟨rfl, rfl, rfl, rfl, rfl, rfl⟩

theorem test_decode_resetsAndPpuCommands :
    decode Config.default (.cmd 0x00000000) = .ok .reset ∧ decode Config.default (.cmd 0x01000000) = .ok .ctlReset ∧
    decode Config.default (.cmd 0x02000081) = .ok (.setbtn 0x00 0x81) ∧ decode Config.default (.cmd 0x03000000) = .ok .ppuReset ∧
    decode Config.default (.cmd 0x04000000) = .ok .beginVblank ∧ decode Config.default (.cmd 0x05000000) = .ok .endVblank ∧
    decode Config.default (.cmd 0x06000000) = .ok .nmiQuery ∧ decode Config.default (.cmd 0x07000000) = .ok .schedInit :=
  ⟨rfl, rfl, rfl, rfl, rfl, rfl, rfl, rfl⟩

/-- Unused operand bits are not examined (30_encoding R123): the last three rows. -/
theorem test_decode_schedulerAndSupervisor :
    decode Config.default (.cmd 0x08000000) = .ok .schedTick ∧ decode Config.default (.cmd 0x09000001) = .ok (.skip 1) ∧
    decode Config.default (.cmd 0x0A000000) = .ok .disable ∧
    decode Config.default (.cmd 0x0B008000) = .ok (.runframe 0x80 0x00) ∧
    decode Config.default (.cmd 0x0C000000) = .ok .deliveredQuery ∧
    decode Config.default (.cmd 0x0DFFFFFF) = .ok (.setTimeout 0xFFFFFF) ∧
    decode Config.default (.cmd 0x0EABCDEF) = .ok .schedStat ∧ decode Config.default (.cmd 0x0F000001) = .ok .supInit ∧
    decode Config.default (.cmd 0x0BFF0102) = .ok (.runframe 0x01 0x02) :=
  ⟨rfl, rfl, rfl, rfl, rfl, rfl, rfl, rfl, rfl⟩

/-- V-F7: the first and the last reserved code (30_encoding R130). -/
theorem test_decode_reserved :
    decode Config.default (.cmd 0x10000000) = .error (.reservedCommand 0x10) ∧
    decode Config.default (.cmd 0xFF000000) = .error (.reservedCommand 0xFF) :=
  ⟨rfl, rfl⟩

/-- `case idx of` with the parameters for the numbers (41_ppu_registers R181, R182): under `otherCfg` index 5 is the address register. -/
theorem test_decode_otherIndices :
    decode otherCfg (.bus 0b1_0010000000000101_00001000) = .ok (.ppuWr6Addr 0x2005 0x08) ∧
    decode otherCfg (.bus 0b0_0011111111111110_00000000) = .ok (.ppuRd5Scroll 0x3FFE) ∧
    decode otherCfg (.bus 0b0_0100000000010111_00000000) = .ok (.memRd 0x4017) := ⟨rfl, rfl, rfl⟩

/-- Rows of spec/opcode_table.json as the host numbers them (logs 12, 13). -/
theorem test_decodeTableWord :
    decodeTableWord 32 0x1200000 = some (.ppuWr0Ctrl 0x2000 0) ∧ decodeTableWord 25 0x0401600 = some .pad0Rd ∧
    decodeTableWord 32 0x0B000000 = some (.runframe 0 0) ∧ decodeTableWord 32 0x0F000000 = some .supInit ∧
    decodeTableWord 25 0x0000000 = some (.memRd 0) ∧ decodeTableWord 32 0x10000000 = none := by decide

theorem test_fetchWordRunsFirst : leaves (step (State.reset.withFetchWord 32 0x1200084)) (fun t => t.ppu.ctrl = 0x84) = true := by
  decide

/-! ## One-step vectors of 95_test_vectors -/

/-- V-U1. -/
theorem test_ppuWr0Ctrl : leaves (exec (.ppuWr0Ctrl 0x2000 0x84) fresh) (fun t => t.ppu.ctrl = 0x84) = true := by decide

/-- R184. -/
theorem test_ppuWr1Mask : leaves (exec (.ppuWr1Mask 0x2001 0x1E) fresh) (fun t => t.ppu.mask = 0x1E) = true := by decide

/-- V-U5, V-D9. -/
theorem test_ppuWr2StatusIgnored :
    leaves (exec (.ppuWr2Status 0x2002 0xFF) fresh) (fun t => t.reply = .ignored && t.ppu = fresh.ppu && t.mem = []) = true := by
  decide

/-- P3 step 1. -/
theorem test_ppuWr3Oamaddr : leaves (exec (.ppuWr3Oamaddr 0x2003 0xFC) fresh) (fun t => t.ppu.oamAddr = 0xFC) = true := by decide

/-- V-U7: oamAddr wraps. -/
theorem test_ppuWr4Oamdata :
    leaves (exec (.ppuWr4Oamdata 0x2004 0x5A) (withPpu { Ppu.reset with oamAddr := 0xFF }))
      (fun t => t.ppu.oam.read 0xFF = 0x5A && t.ppu.oamAddr = 0x00) = true := by decide

/-- V-U9, the second write. -/
theorem test_ppuWr5ScrollSecond :
    leaves (exec (.ppuWr5Scroll 0x2005 0x20) (withPpu { Ppu.reset with scrollX := 0x10, w := true }))
      (fun t => t.ppu.scrollX = 0x10 && t.ppu.scrollY = 0x20 && !t.ppu.w) = true := by decide

/-- P2 step 8: the first write keeps the low byte. -/
theorem test_ppuWr6AddrFirst :
    leaves (exec (.ppuWr6Addr 0x2006 0x23) (withPpu { Ppu.reset with vramAddr := 0x2420 }))
      (fun t => t.ppu.vramAddr = 0x2320 && t.ppu.w) = true := by decide

/-- V-U11: the toggle is shared, the low byte is written. -/
theorem test_ppuWr6AddrShared :
    leaves (exec (.ppuWr6Addr 0x2006 0xC0) (withPpu { Ppu.reset with w := true })) (fun t => t.ppu.vramAddr = 0x00C0 && !t.ppu.w) =
      true := by decide

/-- V-U13: the address wraps at 14 bits. -/
theorem test_ppuWr7DataWraps :
    leaves (exec (.ppuWr7Data 0x2007 0x11) (withPpu { Ppu.reset with vramAddr := 0x3FFF }))
      (fun t => t.ppu.vram.read 0x3FFF = 0x11 && t.ppu.vramAddr = 0x0000) = true := by decide

/-- V-U15: the two high bits of vramAddr do not address. -/
theorem test_ppuWr7DataMasks :
    leaves (exec (.ppuWr7Data 0x2007 0x44) (withPpu { Ppu.reset with vramAddr := 0x7FC0 }))
      (fun t => t.ppu.vram.read 0x3FC0 = 0x44 && t.ppu.vramAddr = 0x3FC1) = true := by decide

/-- The address wraps under another mask (R198 with `VRAM_MASK` 0x1FFF), the OAM address at 8 bits under another OAM size (R187). -/
theorem test_otherSizes :
    leaves (exec (.ppuWr7Data 0x2007 0x11) (underOther (withPpu { Ppu.reset with vramAddr := 0x3FFF })))
      (fun t => t.ppu.vram = [(0x1FFF, 0x11)] && t.ppu.vramAddr = 0x0000) = true ∧
    leaves (exec (.ppuWr4Oamdata 0x2004 0x5A) (underOther (withPpu { Ppu.reset with oamAddr := 0xFF })))
      (fun t => t.ppu.oam = [(0x3F, 0x5A)] && t.ppu.oamAddr = 0x00) = true := by decide

/-- V-U6, all five reads. -/
theorem test_writeOnlyReads :
    let s := withPpu { Ppu.reset with ctrl := 0xFF, mask := 0xFF, oamAddr := 0x12 }
    [Instr.ppuRd0Ctrl 0x2000, .ppuRd1Mask 0x2001, .ppuRd3Oamaddr 0x2003, .ppuRd5Scroll 0x2005, .ppuRd6Addr 0x2006].all
      (fun i => leaves (exec i s) fun t => t.reply = .byte 0x00 && t.ppu = s.ppu) = true := by decide

/-- V-U2, the first read. -/
theorem test_ppuRd2StatusFirst :
    leaves (exec (.ppuRd2Status 0x2002) (withPpu { Ppu.reset with vblank := true, w := true }))
      (fun t => t.reply = .byte 0x80 && !t.ppu.vblank && !t.ppu.w && t.ppu.statusReads = 1) = true := by decide

/-- V-U2, the third read: the flag appears after the byte is sampled. -/
theorem test_ppuRd2StatusThird :
    leaves (exec (.ppuRd2Status 0x2002) (withPpu { Ppu.reset with statusReads := 2 }))
      (fun t => t.reply = .byte 0x00 && t.ppu.sprite0Hit && t.ppu.statusReads = 3) = true := by decide

/-- V-U8. -/
theorem test_ppuRd4Oamdata :
    leaves (exec (.ppuRd4Oamdata 0x2004) (withPpu { Ppu.reset with oamAddr := 0xFF, oam := [(0xFF, 0x5A)] }))
      (fun t => t.reply = .byte 0x5A && t.ppu.oamAddr = 0xFF) = true := by decide

/-- V-U16, both reads' bytes: no read buffer. -/
theorem test_ppuRd7Data :
    leaves (exec (.ppuRd7Data 0x2007)
        (withPpu { Ppu.reset with vramAddr := 0x2000, ctrl := 0x04, vram := [(0x2000, 0x24), (0x2020, 0x25)] }))
      (fun t => t.reply = .byte 0x24 && t.ppu.vramAddr = 0x2020) = true := by decide

/-- V-D8: the DMA reads flat memory, not the status register. -/
theorem test_oamdmaWr :
    leaves (exec (.oamdmaWr 0x20) { withPpu { Ppu.reset with vblank := true } with mem := [(0x2002, 0x77)] })
      (fun t => t.ppu.oam = [(0x02, 0x77)] && t.ppu.vblank && t.ppu.oamAddr = 0x00) = true := by decide +kernel

/-- P3 step 2: the destination wraps. -/
theorem test_oamdmaWrWraps :
    leaves (exec (.oamdmaWr 0x02) { withPpu { Ppu.reset with oamAddr := 0xFC } with mem := [(0x0203, 3), (0x0204, 4)] })
      (fun t => t.ppu.oam = [(0x00, 4), (0xFF, 3)]) = true := by decide +kernel

/-- V-C7: the falling edge latches the new mask. -/
theorem test_strobeWrFalling :
    leaves (exec (.strobeWr 0x00) (withCtl ⟨⟨0x02, 0⟩, ⟨0x01, 0⟩, true⟩))
      (fun t => t.ctl = ⟨⟨0x02, 0⟩, ⟨0x02, 0⟩, false⟩) = true := by decide

/-- V-C10: FE is a write of 0 and no edge. -/
theorem test_strobeWrNoEdge :
    leaves (exec (.strobeWr 0xFE) (withCtl ⟨⟨0x01, 0⟩, ⟨0, 0⟩, false⟩)) (fun t => t.ctl = ⟨⟨0x01, 0⟩, ⟨0, 0⟩, false⟩) = true := by
  decide

/-- V-C3, the first read of port 0. -/
theorem test_pad0RdShifts :
    leaves (exec .pad0Rd (withCtl ⟨⟨0x81, 2⟩, ⟨0x81, 2⟩, false⟩))
      (fun t => t.reply = .byte 1 && t.ctl.shiftRegister = ⟨0xC0, 2⟩) = true := by decide

/-- V-C6: the live mask while the strobe is high. -/
theorem test_pad0RdLive :
    leaves (exec .pad0Rd (withCtl ⟨⟨0x00, 0⟩, ⟨0x01, 0⟩, true⟩)) (fun t => t.reply = .byte 0 && t.ctl.shiftRegister = ⟨0, 0⟩) = true := by
  decide

/-- V-C3, the first read of port 1. -/
theorem test_pad1RdShifts :
    leaves (exec .pad1Rd (withCtl ⟨⟨0xFF, 2⟩, ⟨0xFF, 2⟩, false⟩))
      (fun t => t.reply = .byte 0 && t.ctl.shiftRegister = ⟨0xFF, 0x81⟩) = true := by decide

/-- V-D5. -/
theorem test_memRd :
    leaves (exec (.memRd 0x4014) { fresh with mem := [(0x4014, 0x5E)] }) (fun t => t.reply = .byte 0x5E) = true := by decide

/-- V-D9. -/
theorem test_memWr : leaves (exec (.memWr 0x0002 0x34) fresh) (fun t => t.mem = [(0x0002, 0x34)]) = true := by decide

/-- Writing what an unlisted byte reads as removes the entry. -/
theorem test_memWrZero : leaves (exec (.memWr 0x0002 0x00) { fresh with mem := [(2, 0x34)] }) (fun t => t.mem = []) = true := by decide

/-- P1 steps 1 and 2. -/
theorem test_setbtn :
    leaves (exec (.setbtn 0x01 0x02) (withCtl { Ctl.reset with buttonState := ⟨0x81, 0⟩ })) (fun t => t.ctl.buttonState = ⟨0x81, 2⟩) =
      true := by decide

/-- V-C4. -/
theorem test_setbtnIgnored :
    leaves (exec (.setbtn 2 0xFF) fresh) (fun t => t.reply = .ignored && t.ctl = fresh.ctl) = true ∧
    leaves (exec (.setbtn 255 0xFF) fresh) (fun t => t.reply = .ignored && t.ctl = fresh.ctl) = true := by decide

/-- With `N_PORTS` 1 port 1 is out of range (R160), for SETBTN and for the masks of a frame. -/
theorem test_onePort :
    leaves (exec (.setbtn 1 0xFF) (underOther fresh)) (fun t => t.reply = .ignored && t.ctl = fresh.ctl) = true ∧
    leaves (exec (.runframe 0x80 0x40) (underOther fresh)) (fun t => t.ctl.buttonState = ⟨0x80, 0⟩) = true := by decide

/-- V-C11. -/
theorem test_ctlReset : leaves (exec .ctlReset (withCtl ⟨⟨0x81, 2⟩, ⟨0x81, 2⟩, true⟩)) (fun t => t.ctl = Ctl.reset) = true := by decide

/-- V-U20. -/
theorem test_ppuReset :
    leaves (exec .ppuReset (withPpu { Ppu.reset with statusReads := 2, vram := [(5, 1)], w := true })) (fun t => t.ppu = Ppu.reset) =
      true := by decide

/-- V-U2. -/
theorem test_beginVblank :
    leaves (exec .beginVblank (withPpu { Ppu.reset with sprite0Hit := true, statusReads := 3 }))
      (fun t => t.ppu.vblank && !t.ppu.sprite0Hit && t.ppu.statusReads = 0) = true := by decide

/-- V-U3: the counter of status reads stays. -/
theorem test_endVblank :
    leaves (exec .endVblank (withPpu { Ppu.reset with vblank := true, statusReads := 3 }))
      (fun t => !t.ppu.vblank && t.ppu.sprite0Hit && t.ppu.ppuFrame = 1 && t.ppu.statusReads = 3) = true := by decide

/-- V-U19. -/
theorem test_nmiQuery :
    leaves (exec .nmiQuery (withPpu { Ppu.reset with vblank := true, ctrl := 0x80 })) (fun t => t.reply = .bit true) = true ∧
    leaves (exec .nmiQuery (withPpu { Ppu.reset with vblank := true, ctrl := 0x7F })) (fun t => t.reply = .bit false) = true := by
  decide

/-- V-S1 step 0. -/
theorem test_schedInit :
    leaves (exec .schedInit (withSched ⟨9, 1, 1, false, true, 7⟩)) (fun t => t.sched = ⟨3, 0, 0, true, false, 0⟩) = true := by decide

/-- V-S1 step 2: the transition sets the count to 2, then one is suppressed. -/
theorem test_schedTickTransition :
    leaves (exec .schedTick (dueState ⟨2, 0, 0, false, false, 1⟩ [(0x0770, 1)]))
      (fun t => t.sched = ⟨1, 1, 0, false, false, 2⟩) = true := by decide

/-- V-S4: mode 2 leaves the count. -/
theorem test_schedTickMode2 :
    leaves (exec .schedTick (dueState ⟨2, 0, 0, false, false, 1⟩ [(0x0770, 1), (0x0772, 2)]))
      (fun t => t.sched = ⟨1, 1, 2, false, false, 2⟩) = true := by decide

/-- V-S8, and the counterpart from the HANDLER (V-F6). -/
theorem test_skip :
    leaves (exec (.skip 2) fresh) (fun t => t.sched.pendingSkips = 5) = true ∧
    leaves (exec (.skip 1) { handling with sched := { fresh.sched with pendingSkips := 0 } })
      (fun t => t.sched.pendingSkips = 1) = true := by decide

/-- V-S9. -/
theorem test_disable :
    leaves (exec .disable { fresh with mem := [(0x0770, 1)] })
      (fun t => t.sched.pendingSkips = 0 && t.sched.prevTask = 1 && t.sched.isFirstFrame) = true := by decide

/-- V-S8. -/
theorem test_schedStat : leaves (exec .schedStat (withSched ⟨5, 0, 0, true, false, 0⟩)) (fun t => t.reply = .stat 5 0) = true := by decide

/-- V-F1, the first call. -/
theorem test_runframeSuppressed :
    leaves (exec (.runframe 0x80 0x00) (withPpu { Ppu.reset with ctrl := 0x80 }))
      (fun t => t.reply = .done false && t.sched.pendingSkips = 2 && t.sched.skippedCount = 1 && t.sup.frameCounter = 1 &&
        t.ppu.ppuFrame = 1 && t.ctl.buttonState = ⟨0x80, 0⟩) = true := by decide

/-- V-F1, the fourth call up to the HANDLER. -/
theorem test_runframeDelivers :
    leaves (exec (.runframe 0 0) { dueState ⟨0, 0, 0, false, false, 3⟩ [] with sup := { fresh.sup with frameCounter := 3 } })
      (fun t => t.reply = .invoke && t.sup.phase = .inHandler && t.sup.nmiDelivered && t.sup.frameCounter = 3 &&
        !t.sched.nmiPending) = true := by decide

/-- V-F1. -/
theorem test_deliveredQuery :
    leaves (exec .deliveredQuery { fresh with sup := { fresh.sup with nmiDelivered := true } }) (fun t => t.reply = .bit true) = true := by
  decide

/-- R289. -/
theorem test_setTimeout : leaves (exec (.setTimeout 0xFFFFFF) fresh) (fun t => t.sup.timeout = 16777215) = true := by decide

/-- V-F4's machine restarted (R280). -/
theorem test_supInit : leaves (exec .supInit stopped) (fun t => t.sup = Sup.init testCfg) = true := by decide

/-- R350, from the halted machine. -/
theorem test_reset :
    leaves (exec .reset { stopped with ppu := { Ppu.reset with ctrl := 0x80 }, mem := [(1, 1)] })
      (fun t => t.ppu = Ppu.reset && t.sup.phase = .idle && t.mem = [(1, 1)]) = true := by decide

/-- V-F3. -/
theorem test_handlerFault :
    leaves (step { handling with sup := { handling.sup with frameCounter := 3 }, inputs := [.handlerFaults 42] })
      (fun t => t.reply = .raisedFault 3 42 && t.sup.lastHandlerError = some (3, 42) && t.sup.phase = .idle &&
        t.sup.frameCounter = 4) = true := by decide

/-- V-F4. -/
theorem test_handlerTimeout :
    leaves (step { handling with
        cfg := { testCfg with snapshotCells := [("task", 0x0770), ("mode", 0x0772)] }
        sup := { handling.sup with frameCounter := 3 }, mem := [(0x0770, 1)], inputs := [.watchdogFires] })
      (fun t => t.reply = .raisedTimeout [("frame", 3), ("task", 1), ("mode", 0)] && t.sup.phase = .halted &&
        t.sup.frameCounter = 4) = true := by decide

/-- V-F7. -/
theorem test_refusals :
    exec (.runframe 0 0) { handling with issuer := .host } = .refused .hostWaits ∧
    exec (.setbtn 0 0) handling = .refused .notForHandler ∧ exec .deliveredQuery stopped = .refused .halted ∧
    exec .pad0Rd { fresh with issuer := .handler } = .refused .noHandlerRuns := ⟨rfl, rfl, rfl, rfl⟩

/-- V-M1 to V-M6. -/
theorem test_movieLines :
    parseLine "R......A".toList = some ⟨0x81, 0x00⟩ ∧ parseLine "|0|R......A|.......A||".toList = some ⟨0x81, 0x01⟩ ∧
    parseLine "L+D+B".toList = some ⟨0x62, 0x00⟩ ∧ parseLine "Se+St".toList = some ⟨0x0C, 0x00⟩ ∧
    parseLine "hello world".toList = none ∧ parseLine "".toList = none ∧ parseLine "xxxxxxxx".toList = some ⟨0xFF, 0x00⟩ := by decide

/-- V-P3, V-P4. -/
theorem test_movieRoundTrip :
    formatMovie [⟨0x80, 0⟩, ⟨0x81, 0⟩, ⟨0, 0⟩] = "R.......\nR......A\n........\n".toList ∧
    parseMovie "R.......\nR......A\n........\n".toList = [⟨0x80, 0⟩, ⟨0x81, 0⟩, ⟨0, 0⟩] ∧
    getFrame [⟨0x80, 0⟩] 1000000 = ⟨0, 0⟩ := by decide

/-- Reset memory has the canonical form. -/
theorem test_resetMemoriesWf : State.reset.memoriesWf := ⟨rfl, rfl, rfl⟩

/-! ## Witnesses: the hypotheses of each obligation, met together -/

theorem busAdmitted_fresh : fresh.busAdmitted := .inl ⟨rfl, rfl⟩

theorem busAdmitted_handling : handling.busAdmitted := .inr ⟨rfl, rfl⟩

theorem commandAdmitted_fresh : fresh.commandAdmitted := ⟨rfl, rfl⟩

theorem witness_StepRunsDecodedOperation :
    (∃ rest, { fresh with inputs := hostBus [0x0401600] }.inputs = .port .host (.bus 0x0401600) :: rest) ∧
    decode fresh.cfg (.bus 0x0401600) = .ok .pad0Rd ∧ decode fresh.cfg (tableWord 32 0x0B008000) = .ok (.runframe 0x80 0) ∧
    fresh.inputs = [] := ⟨⟨[], rfl⟩, rfl, rfl, rfl⟩

/-- The last authored frame, the first neutral one, and a movie event. -/
theorem witness_MovieFrameDrivesRunframe :
    2 < [MovieFrameInput.mk 1 0, ⟨2, 0⟩, ⟨3, 0⟩].length ∧ [MovieFrameInput.mk 1 0, ⟨2, 0⟩, ⟨3, 0⟩].length ≤ 3 ∧
    { fresh with inputs := [.movieFrame 0] }.inputs = .movieFrame 0 :: [] := by decide

theorem witness_ReservedCommandRefused :
    0x10 ≤ (0x10 : Byte).toNat ∧ 0x10 ≤ (0xFF : Byte).toNat ∧
    { fresh with inputs := [.port .host (.cmd (cmdWord 0x10 0))] }.inputs = .port .host (.cmd (cmdWord 0x10 0)) :: [] := by decide

/-- Each row of the admission table is met, and not met, somewhere. -/
theorem witness_AdmittedExactlyByPhase :
    fresh.busAdmitted ∧ handling.busAdmitted ∧ ¬ stopped.busAdmitted ∧ fresh.commandAdmitted ∧ ¬ handling.commandAdmitted ∧
    fresh.restartAdmitted ∧ stopped.restartAdmitted ∧ ¬ handling.restartAdmitted := by
  unfold State.busAdmitted State.commandAdmitted State.restartAdmitted; decide

theorem witness_DirectRegisterWrites : fresh.busAdmitted ∧ handling.busAdmitted := ⟨busAdmitted_fresh, busAdmitted_handling⟩

theorem witness_WriteOnlyReadsReturnParameter : fresh.busAdmitted := busAdmitted_fresh

/-- The counter below the threshold, one below it, and with the flag set. -/
theorem witness_StatusReadSamplesThenClears :
    fresh.cfg.wf = true ∧ fresh.busAdmitted ∧ (withPpu { Ppu.reset with statusReads := 2 }).busAdmitted ∧
    (withPpu { Ppu.reset with statusReads := 3, sprite0Hit := true }).busAdmitted :=
  ⟨by decide, busAdmitted_fresh, .inl ⟨rfl, rfl⟩, .inl ⟨rfl, rfl⟩⟩

/-- At the last OAM address. -/
theorem witness_OamDataPort :
    let s := withPpu { Ppu.reset with oamAddr := 0xFF, oam := [(0xFF, 1)] }
    s.ppu.oam.wf s.cfg.oamSize = true ∧ s.busAdmitted := ⟨by decide, .inl ⟨rfl, rfl⟩⟩

theorem witness_ScrollWritesAlternate :
    (fresh.busAdmitted ∧ fresh.ppu.w = false) ∧
    let s := withPpu { Ppu.reset with w := true }
    s.busAdmitted ∧ s.ppu.w = true := ⟨⟨busAdmitted_fresh, rfl⟩, .inl ⟨rfl, rfl⟩, rfl⟩

theorem witness_AddrWritesAlternate :
    (fresh.busAdmitted ∧ fresh.ppu.w = false) ∧
    let s := withPpu { Ppu.reset with w := true, vramAddr := 0xFFFF }
    s.busAdmitted ∧ s.ppu.w = true := ⟨⟨busAdmitted_fresh, rfl⟩, .inl ⟨rfl, rfl⟩, rfl⟩

/-- At the last VRAM address, with either step and either size. -/
theorem witness_VramDataPort :
    (let s := withPpu { Ppu.reset with vramAddr := 0xFFFF, vram := [(0x3FFF, 1)] }
     s.cfg.wf = true ∧ s.ppu.vram.wf s.cfg.vramSize = true ∧ s.busAdmitted) ∧
    let s := underOther (withPpu { Ppu.reset with vramAddr := 0x3FFF, ctrl := 0x04 })
    s.cfg.wf = true ∧ s.ppu.vram.wf s.cfg.vramSize = true ∧ s.busAdmitted :=
  ⟨⟨by decide, by decide, .inl ⟨rfl, rfl⟩⟩, by decide, by decide, .inl ⟨rfl, rfl⟩⟩

/-- The first and the last byte of a page stay in an OAM of 256 bytes; of 64, the last 64. -/
theorem witness_OamDmaCopiesPage :
    (fresh.cfg.wf = true ∧ fresh.ppu.oam.wf fresh.cfg.oamSize = true ∧ fresh.busAdmitted ∧ 256 ≤ 0 + fresh.cfg.oamSize) ∧
    let s := underOther fresh
    s.cfg.wf = true ∧ s.ppu.oam.wf s.cfg.oamSize = true ∧ s.busAdmitted ∧ 192 < 256 ∧ 256 ≤ 192 + s.cfg.oamSize :=
  ⟨⟨by decide, by decide, busAdmitted_fresh, by decide⟩, by decide, by decide, .inl ⟨rfl, rfl⟩, by decide, by decide⟩

theorem witness_VblankCommandsNmiQueryAndTimeout : fresh.commandAdmitted := commandAdmitted_fresh

/-- The two ports, the first and the last port out of range, and port 1 where it does not exist. -/
theorem witness_SetButtonsStoresOrIgnores :
    (fresh.commandAdmitted ∧ (0 : Byte).toNat = 0 ∧ 0 < fresh.cfg.nPorts ∧ (1 : Byte).toNat = 1 ∧ 1 < fresh.cfg.nPorts ∧
      2 ≤ (2 : Byte).toNat ∧ 2 ≤ (255 : Byte).toNat) ∧
    (underOther fresh).commandAdmitted ∧ (underOther fresh).cfg.nPorts ≤ (1 : Byte).toNat :=
  ⟨⟨commandAdmitted_fresh, by decide⟩, ⟨rfl, rfl⟩, by decide⟩

theorem witness_StrobeWriteLatchesOnEdges : fresh.busAdmitted ∧ (withCtl { Ctl.reset with strobeState := true }).busAdmitted :=
  ⟨busAdmitted_fresh, .inl ⟨rfl, rfl⟩⟩

theorem witness_PadReadLatchesOrShifts :
    (fresh.busAdmitted ∧ fresh.ctl.strobeState = false) ∧
    let s := withCtl { Ctl.reset with strobeState := true }
    s.busAdmitted ∧ s.ctl.strobeState = true := ⟨⟨busAdmitted_fresh, rfl⟩, .inl ⟨rfl, rfl⟩, rfl⟩

theorem witness_FlatMemoryPassThrough :
    let s := { fresh with mem := [(0, 1), (65535, 2)] }
    s.mem.wf 65536 = true ∧ s.busAdmitted := ⟨by decide, .inl ⟨rfl, rfl⟩⟩

/-- A suppressed tick, a due tick, a transition. -/
theorem witness_SchedTickTransitionThenDue :
    (dueState ⟨1, 0, 0, true, false, 0⟩ []).commandAdmitted ∧ (dueState ⟨0, 0, 0, false, false, 0⟩ []).commandAdmitted ∧
    (dueState ⟨0, 0, 0, false, false, 0⟩ [(0x0770, 1)]).commandAdmitted := ⟨⟨rfl, rfl⟩, ⟨rfl, rfl⟩, rfl, rfl⟩

theorem witness_SkipDisableAndQueries : fresh.busAdmitted ∧ handling.busAdmitted ∧ fresh.commandAdmitted :=
  ⟨busAdmitted_fresh, busAdmitted_handling, commandAdmitted_fresh⟩

/-- The first tick, with the task cell already 1. -/
theorem witness_TickKeepsSkipSum :
    let s := dueState ⟨3, 0, 0, true, false, 0⟩ [(0x0770, 1)]
    (∃ t, exec .schedTick s = .next t) ∧
    ¬ (s.sched.isFirstFrame = false ∧ s.sched.prevTask = 0 ∧ s.mem.read s.cfg.aTask.toNat = 1 ∧
        (s.mem.read s.cfg.aMode.toNat = 0 ∨ s.mem.read s.cfg.aMode.toNat = 1)) := ⟨⟨_, rfl⟩, by decide⟩

/-- Both ends of the command's step. -/
theorem witness_RunframeSequence :
    fresh.commandAdmitted ∧ (frameStart 0 0 fresh).sched.nmiPending = false ∧
    let s := dueState ⟨0, 0, 0, false, false, 3⟩ []
    s.commandAdmitted ∧ (frameStart 0 0 s).sched.nmiPending = true :=
  ⟨commandAdmitted_fresh, by decide, ⟨rfl, rfl⟩, by decide⟩

theorem supervisorWf_handling : handling.supervisorWf :=
  ⟨fun _ => ⟨rfl, rfl⟩, fun _ => rfl, fun h => absurd h (by decide), fun _ _ h => nomatch (h : none = some _)⟩

theorem witness_HandlerReturnFinishesFrame :
    let s := { handling with inputs := [.handlerReturns] }
    s.supervisorWf ∧ s.sup.phase = .inHandler ∧ s.inputs = .handlerReturns :: [] := ⟨supervisorWf_handling, rfl, rfl⟩

theorem witness_HandlerFaultRecordedAndRaised :
    let s := { handling with inputs := [.handlerFaults 42] }
    s.sup.phase = .inHandler ∧ s.inputs = .handlerFaults 42 :: [] := ⟨rfl, rfl⟩

/-- With a cell, the last address of flat memory. -/
theorem witness_HandlerTimeoutSnapshotsAndHalts :
    let s := { handling with inputs := [.watchdogFires], cfg := { testCfg with snapshotCells := [("top", 0xFFFF)] } }
    s.sup.phase = .inHandler ∧ s.inputs = .watchdogFires :: [] ∧ s.cfg.snapshotCells[0]? = some ("top", 0xFFFF) :=
  ⟨rfl, rfl, rfl⟩

theorem witness_DeviceResets : fresh.commandAdmitted := commandAdmitted_fresh

theorem witness_SchedulerAndSupervisorInit : fresh.commandAdmitted ∧ stopped.restartAdmitted :=
  ⟨commandAdmitted_fresh, .inr rfl, rfl⟩

theorem witness_ResetIsFourComponentResets : fresh.commandAdmitted ∧ stopped.restartAdmitted :=
  ⟨commandAdmitted_fresh, .inr rfl, rfl⟩

/-- The toggle in either state. -/
theorem witness_FrameOfRegisterWrites :
    (∃ t, exec (.ppuWr0Ctrl 0x2000 1) fresh = .next t) ∧ (∃ t, exec (.ppuWr1Mask 0x2000 1) fresh = .next t) ∧
    (∃ t, exec (.ppuWr2Status 0x2000 1) fresh = .next t) ∧ (∃ t, exec (.ppuWr3Oamaddr 0x2000 1) fresh = .next t) ∧
    (∃ t, exec (.ppuWr5Scroll 0x2000 1) fresh = .next t ∧ fresh.ppu.w = false) ∧
    (∃ t, exec (.ppuWr5Scroll 0x2000 1) (withPpu { Ppu.reset with w := true }) = .next t) ∧
    ∃ t, exec (.ppuWr6Addr 0x2000 1) fresh = .next t :=
  ⟨⟨_, rfl⟩, ⟨_, rfl⟩, ⟨_, rfl⟩, ⟨_, rfl⟩, ⟨_, rfl, rfl⟩, ⟨_, rfl⟩, ⟨_, rfl⟩⟩

theorem witness_FrameOfPpuStores :
    (∃ t, exec (.ppuWr4Oamdata 0x2004 1) fresh = .next t) ∧ (∃ t, exec (.ppuWr7Data 0x2007 1) fresh = .next t) ∧
    (∃ t, exec (.oamdmaWr 2) fresh = .next t) ∧ 0 ≠ oamIndex testCfg 0xFF ∧
    0 ≠ (vramIndex testCfg 0xFFFF).toNat :=
  ⟨⟨_, rfl⟩, ⟨_, rfl⟩, ⟨_, rfl⟩, by decide, by decide⟩

theorem witness_FrameOfPpuReads :
    (∃ t, exec (.ppuRd0Ctrl 0x2000) fresh = .next t) ∧ (∃ t, exec (.ppuRd1Mask 0x2001) fresh = .next t) ∧
    (∃ t, exec (.ppuRd2Status 0x2002) fresh = .next t) ∧ (∃ t, exec (.ppuRd3Oamaddr 0x2003) fresh = .next t) ∧
    (∃ t, exec (.ppuRd4Oamdata 0x2004) fresh = .next t) ∧ (∃ t, exec (.ppuRd5Scroll 0x2005) fresh = .next t) ∧
    (∃ t, exec (.ppuRd6Addr 0x2006) fresh = .next t) ∧ ∃ t, exec (.ppuRd7Data 0x2007) fresh = .next t :=
  ⟨⟨_, rfl⟩, ⟨_, rfl⟩, ⟨_, rfl⟩, ⟨_, rfl⟩, ⟨_, rfl⟩, ⟨_, rfl⟩, ⟨_, rfl⟩, ⟨_, rfl⟩⟩

/-- A port that stores nothing too. -/
theorem witness_FrameOfControllerOperations :
    (∃ t, exec (.strobeWr 1) fresh = .next t) ∧ (∃ t, exec .pad0Rd fresh = .next t ∧ fresh.ctl.strobeState = false) ∧
    (∃ t, exec .pad1Rd fresh = .next t) ∧ (∃ t, exec (.setbtn 1 1) fresh = .next t) ∧ (∃ t, exec (.setbtn 2 1) fresh = .next t) ∧
    ∃ t, exec .ctlReset fresh = .next t :=
  ⟨⟨_, rfl⟩, ⟨_, rfl, rfl⟩, ⟨_, rfl⟩, ⟨_, rfl⟩, ⟨_, rfl⟩, ⟨_, rfl⟩⟩

theorem witness_FrameOfPassThrough :
    (∃ t, exec (.memRd 0xFFFF) fresh = .next t) ∧ (∃ t, exec (.memWr 0xFFFF 1) fresh = .next t) ∧ 0 ≠ (0xFFFF : Addr).toNat :=
  ⟨⟨_, rfl⟩, ⟨_, rfl⟩, by decide⟩

theorem witness_FrameOfSchedulerOperations :
    (∃ t, exec .schedInit fresh = .next t) ∧ (∃ t, exec .schedTick (withSched ⟨0, 0, 0, true, true, 0⟩) = .next t) ∧
    (∃ t, exec (.skip 0xFFFFFF) handling = .next t) ∧ (∃ t, exec .disable handling = .next t) ∧
    ∃ t, exec .schedStat fresh = .next t := ⟨⟨_, rfl⟩, ⟨_, rfl⟩, ⟨_, rfl⟩, ⟨_, rfl⟩, ⟨_, rfl⟩⟩

theorem witness_FrameOfVblankCommandsAndQueries :
    (∃ t, exec .beginVblank fresh = .next t) ∧ (∃ t, exec .endVblank fresh = .next t) ∧ (∃ t, exec .nmiQuery fresh = .next t) ∧
    (∃ t, exec .deliveredQuery fresh = .next t) ∧ ∃ t, exec (.setTimeout 0) fresh = .next t :=
  ⟨⟨_, rfl⟩, ⟨_, rfl⟩, ⟨_, rfl⟩, ⟨_, rfl⟩, ⟨_, rfl⟩⟩

theorem witness_FrameOfResets :
    (∃ t, exec .reset stopped = .next t) ∧ (∃ t, exec .ctlReset fresh = .next t) ∧ (∃ t, exec .ppuReset fresh = .next t) ∧
    (∃ t, exec .schedInit fresh = .next t) ∧ ∃ t, exec .supInit stopped = .next t :=
  ⟨⟨_, rfl⟩, ⟨_, rfl⟩, ⟨_, rfl⟩, ⟨_, rfl⟩, ⟨_, rfl⟩⟩

theorem witness_FrameOfRunframe :
    (∃ t, exec (.runframe 1 2) fresh = .next t) ∧ ∃ t, exec (.runframe 1 2) (dueState ⟨0, 0, 0, false, false, 3⟩ []) = .next t :=
  ⟨⟨_, rfl⟩, ⟨_, rfl⟩⟩

/-- One operation of each shape, at the edge of its operands. -/
theorem witness_DecodeEncodeRoundTrip :
    wellFormed Config.default (.ppuWr7Data 0x3FFF 0xFF) = true ∧ wellFormed Config.default (.ppuRd0Ctrl 0x2000) = true ∧
    wellFormed Config.default (.oamdmaWr 0xFF) = true ∧ wellFormed Config.default (.strobeWr 0xFF) = true ∧
    wellFormed Config.default .pad0Rd = true ∧ wellFormed Config.default .pad1Rd = true ∧
    wellFormed Config.default (.memRd 0xFFFF) = true ∧ wellFormed Config.default (.memWr 0xFFFF 0xFF) = true ∧
    wellFormed Config.default (.skip 0xFFFFFF) = true := by decide

theorem witness_DecodeIsOntoWellFormed :
    (0x1200084 : BitVec 25).getLsbD 24 = true ∧ decode Config.default (.cmd 0x0F123456) = .ok .supInit := ⟨by decide, rfl⟩

/-- The first address of W0 and the last mirror of index 0 in W1; every index of another assignment is some address's. -/
theorem witness_MirrorsReachSameRegister :
    inPpuWindow fresh.cfg 0x2000 = true ∧ inPpuWindow fresh.cfg 0x3FF8 = true ∧
    (0x2000 : Addr).extractLsb' 0 3 = (0x3FF8 : Addr).extractLsb' 0 3 ∧ otherCfg.wf = true ∧
    (let mirrors : List Addr := [0x2000, 0x2001, 0x2002, 0x2003, 0x2004, 0x2006, 0x2005, 0x3FFF]
     mirrors.map (fun a => a.extractLsb' 0 3) = otherCfg.indices ∧ mirrors.all (inPpuWindow otherCfg) = true) :=
  ⟨by decide, by decide, by decide, by decide, by decide, by decide⟩

theorem inv_handling (ev : List Event) : { handling with inputs := ev }.Inv where
  config := (by decide : handling.cfg.wf = true)
  memories := ⟨rfl, rfl, rfl⟩
  counter := (⟨by decide, by decide⟩ : handling.ppu.counterWf handling.cfg)
  supervisor := supervisorWf_handling

/-- While the HANDLER runs, its run ended by the watchdog. -/
theorem witness_StepKeepsInvariant :
    let s := { handling with inputs := [.watchdogFires] }
    s.Inv ∧ ∃ t, step s = .next t := ⟨inv_handling _, _, rfl⟩

theorem witness_NoStepChangesDecoding : ∃ t, step { fresh with inputs := hostBus [0x1200084] } = .next t := ⟨_, rfl⟩

theorem witness_OnlyMemWrChangesFlatMemory :
    ∃ t, step { fresh with inputs := hostBus [0x1001080] } = .next t ∧ t.mem.read 0x10 ≠ fresh.mem.read 0x10 :=
  ⟨_, rfl, by decide⟩

theorem witness_PendingSkipsWriters :
    ∃ t, step { fresh with inputs := [.port .host (.cmd 0x09000001)] } = .next t ∧
      t.sched.pendingSkips ≠ fresh.sched.pendingSkips := ⟨_, rfl, by decide⟩

/-- An end outside the HANDLER's run; an operation and an end inside it. -/
theorem witness_OnlyEndingsLeaveHandler :
    (let s := { fresh with inputs := [.handlerReturns] }
     s.sup.phase ≠ .inHandler ∧ s.nextEnds = true) ∧
    (let s := { handling with inputs := [.port .handler (.bus 0x0401600)] }
     s.sup.phase = .inHandler ∧ s.nextEnds = false ∧ ∃ t, step s = .next t) ∧
    let s := { handling with inputs := [.handlerReturns] }
    s.sup.phase = .inHandler ∧ s.nextEnds = true ∧ ∃ t, step s = .next t :=
  ⟨⟨by decide, rfl⟩, ⟨rfl, rfl, _, rfl⟩, rfl, rfl, _, rfl⟩

theorem witness_OnlyRestartLeavesHalted :
    let s := { stopped with inputs := [.port .host (.cmd 0x0F000000)] }
    s.sup.phase = .halted ∧ s.inputs ≠ [] ∧ ∃ t, step s = .next t := ⟨rfl, by decide, _, rfl⟩

/-- Both exceptions. -/
theorem witness_OnlyHandlerEndsRaise :
    (∃ t, step { handling with inputs := [.handlerFaults 7] } = .next t ∧ t.reply = .raisedFault 0 7) ∧
    ∃ t, step { handling with inputs := [.watchdogFires] } = .next t ∧ t.reply = .raisedTimeout [("frame", 0)] :=
  ⟨⟨_, rfl, rfl⟩, _, rfl, rfl⟩

/-- An accepted frame, a restart, another operation. -/
theorem witness_FramesAcceptedLaw :
    (∃ t, step { fresh with inputs := [.port .host (.cmd 0x0B000000)] } = .next t) ∧
    { fresh with inputs := [.port .host (.cmd 0x0B000000)] }.nextOperation = some (.runframe 0 0) ∧
    (∃ t, step { stopped with inputs := [.port .host (.cmd 0x0F000000)] } = .next t) ∧
    { stopped with inputs := [.port .host (.cmd 0x0F000000)] }.nextOperation = some .supInit ∧
    (∃ t, step { handling with inputs := [.handlerReturns] } = .next t) ∧
    { handling with inputs := [.handlerReturns] }.nextOperation = none :=
  ⟨⟨_, rfl⟩, rfl, ⟨_, rfl⟩, rfl, ⟨_, rfl⟩, rfl⟩

/-- No read, eight, nine: the inputs exist for every k. -/
theorem witness_SerialReadOutLsbFirst :
    let s (k : Nat) : State :=
      { withCtl { Ctl.reset with strobeState := true } with
        inputs := .port .host (encode testCfg (.strobeWr 0xFE)) :: (List.replicate k (.port .host (encode testCfg .pad0Rd)) ++ []) }
    (s 9).ownedBy .host ∧ (s 9).cfg.ctlFillBit = true ∧ wellFormed (s 9).cfg (.strobeWr 0xFE) = true ∧
    wellFormed (s 9).cfg (padInstr .port0) = true ∧ (s 9).ctl.strobeState = true ∧ (0xFE : Byte).getLsbD 0 = false ∧
    (s 8).ownedBy .host ∧ 8 ≤ 8 := ⟨.inl ⟨rfl, rfl⟩, rfl, by decide, by decide, rfl, rfl, .inl ⟨rfl, rfl⟩, by decide⟩

theorem witness_StrobeHighNeverAdvances :
    let s : State :=
      { withCtl { Ctl.reset with strobeState := true } with
        inputs := List.replicate 3 (.port .host (encode testCfg .pad1Rd)) ++ [] }
    s.ownedBy .host ∧ wellFormed s.cfg (padInstr .port1) = true ∧ s.ctl.strobeState = true ∧ 0 < 3 :=
  ⟨.inl ⟨rfl, rfl⟩, by decide, rfl, by decide⟩

theorem witness_LeftReassemblyReversesBits :
    let s : State := { handling with inputs := List.replicate 8 (.port .handler (encode testCfg .pad0Rd)) ++ [] }
    s.ownedBy .handler ∧ wellFormed s.cfg (padInstr .port0) = true ∧ s.ctl.strobeState = false :=
  ⟨.inr ⟨rfl, rfl⟩, by decide, rfl⟩

theorem witness_StatusReadRestartsPair : (withPpu { Ppu.reset with w := true }).busAdmitted := .inl ⟨rfl, rfl⟩

theorem witness_DataWritesAdvanceAddress :
    let s : State :=
      { withPpu { Ppu.reset with vramAddr := 0x3FC0, ctrl := 0x04 } with
        inputs := [1, 2, 3].map (fun v => .port .host (encode testCfg (.ppuWr7Data 0x2007 v))) ++ [] }
    s.ownedBy .host ∧ s.cfg.wf = true ∧ wellFormed s.cfg (.ppuWr7Data 0x2007 0) = true :=
  ⟨.inl ⟨rfl, rfl⟩, by decide, by decide⟩

theorem witness_StatusTimeline :
    let s : State :=
      { withPpu { Ppu.reset with vblank := true } with
        inputs := List.replicate 5 (.port .host (encode testCfg (.ppuRd2Status 0x2002))) ++ [] }
    s.ownedBy .host ∧ s.cfg.wf = true ∧ wellFormed s.cfg (.ppuRd2Status 0x2002) = true ∧ s.ppu.vblank = true ∧
    s.ppu.sprite0Hit = false ∧ s.ppu.statusReads = 0 := ⟨.inl ⟨rfl, rfl⟩, by decide, by decide, rfl, rfl, rfl⟩

/-- After SCHED_INIT: three frames are suppressed (V-F1); and with none pending on a later tick. -/
theorem witness_PendingSkipsThenDelivery :
    (let s : State :=
       { withPpu { Ppu.reset with ctrl := 0x80 } with
         inputs := List.replicate 4 (.port .host (encode testCfg (.runframe 0 0))) ++ [] }
     s.sup.phase = .idle ∧ s.ppu.ctrl.getLsbD s.cfg.ctrlNmiBit.val = true ∧ s.sched.pendingSkips = 3 ∧
     s.sched.nmiPending = false ∧ s.sched.isFirstFrame = true) ∧
    let s : State :=
      { dueState ⟨0, 0, 0, false, false, 3⟩ [] with inputs := [.port .host (encode testCfg (.runframe 0 0))] }
    s.sup.phase = .idle ∧ s.ppu.ctrl.getLsbD s.cfg.ctrlNmiBit.val = true ∧ s.sched.pendingSkips = 0 ∧
    s.sched.nmiPending = false ∧ ¬ (s.sched.prevTask = 0 ∧ s.mem.read s.cfg.aTask.toNat = 1) :=
  ⟨⟨rfl, rfl, rfl, rfl, rfl⟩, rfl, rfl, rfl, rfl, by decide⟩

theorem witness_ButtonStringBits :
    "R......A".toList.length = 8 ∧ "R......A".toList[7]? = some 'A' ∧ "R......A".toList[1]? = some '.' ∧
    "R......".toList.length ≠ 8 := by decide

theorem witness_MovieRoundTrip : ∀ f, f ∈ [MovieFrameInput.mk 0x80 0, ⟨0x00, 0⟩, ⟨0xFF, 0⟩] → f.port2 = 0x00 := by decide

end Sys2Proof.Tests
end

namespace Sys2Proof.Machine

/-- A port word that decodes runs its operation for the agent that issued it (00_scope R11, 43_io_dispatcher R241, R242). -/
theorem step_port_of_decode {s : State} {agent : Agent} {word : PortWord} {rest : List Event} {i : Instr}
    (hin : s.inputs = .port agent word :: rest) (hdec : decode s.cfg word = .ok i) :
    step s = exec i { s with inputs := rest, issuer := agent } := by
  rw [step_event hin]
  exact runWord_ok (s := { s with inputs := rest }) hdec

/-- A table word goes in front of the events, so taking it leaves the state's own events (20_memory R96). -/
theorem step_withFetchWord_of_decode {s : State} {nbits w : Nat} {i : Instr}
    (hdec : decode s.cfg (tableWord nbits w) = .ok i) :
    step (s.withFetchWord nbits w) = exec i { s with issuer := portOwner s.sup.phase } :=
  step_port_of_decode (withFetchWord_inputs s nbits w) hdec

/-- Settles O1: the step takes the oldest event, and a decoded port word is the operation run for its issuer. -/
theorem stepRunsDecodedOperation : Obligations.StepRunsDecodedOperation := by
  refine ⟨?port, ?table, ?empty⟩
  case port => exact fun _ _ _ _ _ => step_port_of_decode
  case table => exact fun _ _ _ _ => step_withFetchWord_of_decode
  case empty => exact fun _ => step_idle

end Sys2Proof.Machine

namespace Sys2Proof.Machine

/-! ## What each operation does to a component of the state -/

section Frames

variable {i : Instr} {s t : State}

@[simp] theorem runFrame_cfg (p1 p2 : Byte) : (runFrame p1 p2 s).cfg = s.cfg := by
  obtain ⟨-, h⟩ | ⟨-, h⟩ := runFrame_cases s p1 p2 <;> simp [h, frameStart_eq]

@[simp] theorem runFrame_mem (p1 p2 : Byte) : (runFrame p1 p2 s).mem = s.mem := by
  obtain ⟨-, h⟩ | ⟨-, h⟩ := runFrame_cases s p1 p2 <;> simp [h, frameStart_eq]

@[simp] theorem runFrame_ppu (p1 p2 : Byte) : (runFrame p1 p2 s).ppu = s.ppu.endVblank.beginVblank := by
  obtain ⟨-, h⟩ | ⟨-, h⟩ := runFrame_cases s p1 p2 <;> simp [h, frameStart_eq]

/-- SETBTN writes the controller alone, whatever its port operand (40_controller R160). -/
theorem exec_setbtn_next {port mask : Byte} (h : exec (.setbtn port mask) s = .next t) :
    ∃ c r, t = { s with ctl := c, reply := r } := by
  obtain ⟨-, rfl⟩ := guarded_eq_next_iff.1 (exec_setbtn s port mask ▸ h)
  cases padOf s.cfg port with
  | none => exact ⟨s.ctl, .ignored, rfl⟩
  | some p => exact ⟨(setButtons p mask s).ctl, .ok, rfl⟩

/-- No operation writes the parameters (70_reset_and_hazards R352). -/
theorem exec_cfg (h : exec i s = .next t) : t.cfg = s.cfg := by
  cases i
  case setbtn port mask =>
    obtain ⟨c, r, rfl⟩ := exec_setbtn_next h
    rfl
  case runframe p1 p2 =>
    obtain ⟨-, rfl⟩ := guarded_eq_next_iff.1 h
    exact runFrame_cfg p1 p2
  all_goals
    obtain ⟨-, rfl⟩ := guarded_eq_next_iff.1 h
    rfl

/-- MEM_WR alone writes flat memory, one byte of it (43_io_dispatcher R249). -/
theorem exec_mem_cases (h : exec i s = .next t) :
    t.mem = s.mem ∨ ∃ a v, i = .memWr a v ∧ t.mem = s.mem.write a.toNat v := by
  cases i
  case memWr a v =>
    obtain ⟨-, rfl⟩ := guarded_eq_next_iff.1 h
    exact .inr ⟨a, v, rfl, rfl⟩
  case setbtn port mask =>
    obtain ⟨c, r, rfl⟩ := exec_setbtn_next h
    exact .inl rfl
  case runframe p1 p2 =>
    obtain ⟨-, rfl⟩ := guarded_eq_next_iff.1 h
    exact .inl (runFrame_mem p1 p2)
  all_goals
    obtain ⟨-, rfl⟩ := guarded_eq_next_iff.1 h
    exact .inl rfl

/-- The operations that can write `pendingSkips` (10_state R40). -/
theorem exec_pendingSkips_writers (h : exec i s = .next t) (hne : t.sched.pendingSkips ≠ s.sched.pendingSkips) :
    i = .schedInit ∨ i = .reset ∨ i = .schedTick ∨ i = .disable ∨ (∃ n, i = .skip n) ∨ ∃ p1 p2, i = .runframe p1 p2 := by
  cases i
  case schedInit | reset | schedTick | disable | skip | runframe => simp
  case setbtn port mask =>
    obtain ⟨c, r, rfl⟩ := exec_setbtn_next h
    exact absurd rfl hne
  all_goals
    obtain ⟨-, rfl⟩ := guarded_eq_next_iff.1 h
    exact absurd rfl hne

@[simp] theorem raiseException_cfg (x : HandlerException) : (raiseException x s).cfg = s.cfg := by cases x <;> rfl
@[simp] theorem raiseException_ppu (x : HandlerException) : (raiseException x s).ppu = s.ppu := by cases x <;> rfl
@[simp] theorem raiseException_mem (x : HandlerException) : (raiseException x s).mem = s.mem := by cases x <;> rfl
@[simp] theorem raiseException_sched (x : HandlerException) : (raiseException x s).sched = s.sched := by cases x <;> rfl

/-- A step is empty, is one operation, or ends the HANDLER's invocation (00_scope R11, 45_frame_supervisor R283). -/
theorem step_next_kinds (h : step s = .next t) :
    t = s ∨
    (∃ i rest agent, s.nextOperation = some i ∧ exec i { s with inputs := rest, issuer := agent } = .next t) ∨
    (s.sup.phase = .inHandler ∧ ∃ rest, t = returnFromHandler { s with inputs := rest }) ∨
    (s.sup.phase = .inHandler ∧ ∃ rest x, t = raiseException x { s with inputs := rest }) := by
  obtain ⟨-, rfl⟩ | ⟨rest, agent, w, i, hin, hdec, he⟩ | ⟨rest, k, hin, he⟩ | ⟨rest, -, hp, rfl⟩ | ⟨rest, e, -, hp, rfl⟩ |
    ⟨rest, -, hp, rfl⟩ := step_next_cases h
  · exact .inl rfl
  · exact .inr (.inl ⟨i, rest, agent, by simp [State.nextOperation, hin, hdec], he⟩)
  · exact .inr (.inl ⟨_, rest, .host, by simp [State.nextOperation, hin], he⟩)
  · exact .inr (.inr (.inl ⟨hp, rest, rfl⟩))
  · exact .inr (.inr (.inr ⟨hp, rest, .handlerFault e, rfl⟩))
  · exact .inr (.inr (.inr ⟨hp, rest, .handlerTimeout, rfl⟩))

end Frames

/-- Settles O46: only an operation writes flat memory, only MEM_WR among them, and its write keeps every other byte. -/
theorem onlyMemWrChangesFlatMemory : Obligations.OnlyMemWrChangesFlatMemory := by
  intro s t b h hne
  obtain rfl | ⟨i, rest, agent, hop, he⟩ | ⟨-, rest, rfl⟩ | ⟨-, rest, x, rfl⟩ := step_next_kinds h
  · exact absurd rfl hne
  · obtain hmem | ⟨a, v, rfl, hmem⟩ := exec_mem_cases he
    · exact absurd (congrArg (Memory.read · b) hmem) hne
    · refine ⟨a, v, hop, ?_⟩
      by_contra hb
      rw [hmem] at hne
      exact hne (Memory.read_write_other s.mem v hb)
  · exact absurd (by simp) hne
  · exact absurd (by simp) hne

/-- Settles O47: no end of an invocation writes the scheduler, and of the operations only the named ones write `pendingSkips`. -/
theorem pendingSkipsWriters : Obligations.PendingSkipsWriters := by
  intro s t h hne
  obtain rfl | ⟨i, rest, agent, hop, he⟩ | ⟨-, rest, rfl⟩ | ⟨-, rest, x, rfl⟩ := step_next_kinds h
  · exact absurd rfl hne
  · exact ⟨i, hop, exec_pendingSkips_writers he hne⟩
  · exact absurd (by simp) hne
  · exact absurd (by simp) hne

/-! ## The PPU's part of the invariant -/

/-- What the machine's invariant says of the PPU device: both memories canonical, the status counter within its bounds. -/
def Ppu.Wf (cfg : Config) (p : Ppu) : Prop :=
  p.vram.wf cfg.vramSize = true ∧ p.oam.wf cfg.oamSize = true ∧ p.counterWf cfg

namespace Ppu.Wf

variable {cfg : Config} {p : Ppu}

theorem reset (hc : cfg.wf = true) : Ppu.reset.Wf cfg :=
  ⟨rfl, rfl, Nat.zero_le _, fun _ => s0Threshold_pos hc⟩

theorem beginVblank (hc : cfg.wf = true) (h : p.Wf cfg) : p.beginVblank.Wf cfg := by
  obtain ⟨hvram, hoam, -⟩ := h
  exact ⟨hvram, hoam, Nat.zero_le _, fun _ => s0Threshold_pos hc⟩

theorem endVblank (h : p.Wf cfg) : p.endVblank.Wf cfg := by
  obtain ⟨hvram, hoam, hle, -⟩ := h
  exact ⟨hvram, hoam, hle, by simp⟩

theorem statusRead (h : p.Wf cfg) : (p.statusRead cfg).Wf cfg := by
  obtain ⟨hvram, hoam, hcount⟩ := h
  exact ⟨by simpa using hvram, by simpa using hoam, statusRead_counterWf hcount⟩

theorem oamDataWrite (hc : cfg.wf = true) (h : p.Wf cfg) (v : Byte) : (p.oamDataWrite cfg v).Wf cfg := by
  obtain ⟨hvram, hoam, hcount⟩ := h
  exact ⟨hvram, Memory.write_wf hoam v (oamIndex_lt hc _), hcount⟩

theorem oamDma (hc : cfg.wf = true) (h : p.Wf cfg) (src : List Byte) : (p.oamDma cfg src).Wf cfg := by
  obtain ⟨hvram, hoam, hcount⟩ := h
  exact ⟨hvram, Memory.copyBytes_wf hc hoam _ src, hcount⟩

theorem vramStore (hc : cfg.wf = true) (h : p.Wf cfg) (v : Byte) : (p.vramStore cfg v).Wf cfg := by
  obtain ⟨hvram, hoam, hcount⟩ := h
  exact ⟨Memory.write_wf hvram v (vramIndex_lt hc _), hoam, hcount⟩

theorem vramInc (h : p.Wf cfg) : (p.vramInc cfg).Wf cfg := h

theorem scrollWrite (h : p.Wf cfg) (v : Byte) : (p.scrollWrite v).Wf cfg := by
  unfold Ppu.scrollWrite
  split <;> exact h

theorem addrWrite (h : p.Wf cfg) (v : Byte) : (p.addrWrite v).Wf cfg := by
  unfold Ppu.addrWrite
  split <;> exact h

end Ppu.Wf

/-- Every operation keeps the PPU's part of the invariant. -/
theorem exec_ppuWf {i : Instr} {s t : State} (hc : s.cfg.wf = true) (hp : s.ppu.Wf s.cfg) (h : exec i s = .next t) :
    t.ppu.Wf s.cfg := by
  cases i
  case setbtn port mask =>
    obtain ⟨c, r, rfl⟩ := exec_setbtn_next h
    exact hp
  all_goals obtain ⟨-, rfl⟩ := guarded_eq_next_iff.1 h
  case reset | ppuReset => exact .reset hc
  case ppuWr4Oamdata a v => exact hp.oamDataWrite hc v
  case ppuWr5Scroll a v => exact hp.scrollWrite v
  case ppuWr6Addr a v => exact hp.addrWrite v
  case ppuWr7Data a v => exact (hp.vramStore hc v).vramInc
  case ppuRd2Status a => exact hp.statusRead
  case oamdmaWr page => exact hp.oamDma hc (dmaBytes s.mem page)
  case beginVblank => exact hp.beginVblank hc
  case endVblank => exact hp.endVblank
  case runframe p1 p2 =>
    rw [runFrame_ppu]
    exact hp.endVblank.beginVblank hc
  -- the others leave both memories, the counter and the flag
  all_goals exact hp

/-! ## The supervisor's part of the invariant, phase by phase -/

section Supervisor

variable {s t : State}

/-- A recorded error carries the number of a frame that has ended. -/
def Sup.errorWf (p : Sup) : Prop :=
  ∀ f e, p.lastHandlerError = some (f, e) → f < p.frameCounter

theorem Sup.errorWf.mono {p q : Sup} (h : p.errorWf) (herr : q.lastHandlerError = p.lastHandlerError)
    (hle : p.frameCounter ≤ q.frameCounter) : q.errorWf :=
  fun f e hq => (h f e (herr ▸ hq)).trans_le hle

theorem supervisorWf_idle_iff (hp : s.sup.phase = .idle) :
    s.supervisorWf ↔ s.sup.snapshot = none ∧ s.sup.errorWf := by
  simp [State.supervisorWf, Sup.errorWf, hp]

theorem supervisorWf_inHandler_iff (hp : s.sup.phase = .inHandler) :
    s.supervisorWf ↔
      (s.sup.nmiDelivered = true ∧ s.sched.nmiPending = false) ∧ s.sup.snapshot = none ∧ s.sup.errorWf := by
  simp [State.supervisorWf, Sup.errorWf, hp]

theorem supervisorWf_halted_iff (hp : s.sup.phase = .halted) :
    s.supervisorWf ↔
      (∃ f cells, s.sup.snapshot = some (("frame", f) :: cells) ∧ s.sup.frameCounter = f + 1) ∧ s.sup.errorWf := by
  simp [State.supervisorWf, Sup.errorWf, hp]

theorem supervisorWf_of_init (h : t.sup = Sup.init t.cfg) : t.supervisorWf := by
  rw [supervisorWf_idle_iff (by rw [h]; rfl), h]
  simp [Sup.errorWf, Sup.init]

/-- Of the scheduler the supervisor's part reads the pending mark alone. -/
theorem supervisorWf_congr (hs : s.supervisorWf) (hsup : t.sup = s.sup) (hpend : t.sched.nmiPending = s.sched.nmiPending) :
    t.supervisorWf := by
  unfold State.supervisorWf
  rw [hsup, hpend]
  exact hs

/-- In `Idle` the pending mark is free. -/
theorem supervisorWf_congr_idle (hp : s.sup.phase = .idle) (hs : s.supervisorWf) (hsup : t.sup = s.sup) : t.supervisorWf := by
  rw [supervisorWf_idle_iff (hsup ▸ hp), hsup]
  exact (supervisorWf_idle_iff hp).1 hs

theorem supervisorWf_deliverNmi (hp : s.sup.phase = .idle) (hs : s.supervisorWf) : (deliverNmi s).supervisorWf := by
  obtain ⟨hsnap, herr⟩ := (supervisorWf_idle_iff hp).1 hs
  exact (supervisorWf_inHandler_iff rfl).2 ⟨⟨rfl, rfl⟩, hsnap, herr⟩

theorem supervisorWf_finishFrame (hp : s.sup.phase = .idle) (hs : s.supervisorWf) : (finishFrame s).supervisorWf := by
  obtain ⟨hsnap, herr⟩ := (supervisorWf_idle_iff hp).1 hs
  exact (supervisorWf_idle_iff (s := finishFrame s) hp).2 ⟨hsnap, herr.mono rfl (Nat.le_succ _)⟩

theorem supervisorWf_frameStart (hp : s.sup.phase = .idle) (hs : s.supervisorWf) (p1 p2 : Byte) :
    (frameStart p1 p2 s).supervisorWf :=
  (supervisorWf_idle_iff (s := frameStart p1 p2 s) hp).2 ((supervisorWf_idle_iff hp).1 hs)

/-- A frame that starts in `Idle` ends there, or in `InHandler` with its interrupt delivered (45_frame_supervisor R282). -/
theorem supervisorWf_runFrame (hp : s.sup.phase = .idle) (hs : s.supervisorWf) (p1 p2 : Byte) :
    (runFrame p1 p2 s).supervisorWf := by
  have hstart := supervisorWf_frameStart hp hs p1 p2
  obtain ⟨-, h⟩ | ⟨-, h⟩ := runFrame_cases s p1 p2 <;> rw [h]
  · exact supervisorWf_deliverNmi hp hstart
  · exact supervisorWf_finishFrame hp hstart

theorem supervisorWf_returnFromHandler (hp : s.sup.phase = .inHandler) (hs : s.supervisorWf) :
    (returnFromHandler s).supervisorWf := by
  obtain ⟨-, hsnap, herr⟩ := (supervisorWf_inHandler_iff hp).1 hs
  exact (supervisorWf_idle_iff rfl).2 ⟨hsnap, herr.mono rfl (Nat.le_succ _)⟩

/-- The record an exception leaves carries the number of the frame that it ends (45_frame_supervisor R285, R286). -/
theorem supervisorWf_raiseException (hp : s.sup.phase = .inHandler) (hs : s.supervisorWf) (x : HandlerException) :
    (raiseException x s).supervisorWf := by
  obtain ⟨-, hsnap, herr⟩ := (supervisorWf_inHandler_iff hp).1 hs
  cases x with
  | handlerFault e =>
    refine (supervisorWf_idle_iff rfl).2 ⟨hsnap, ?_⟩
    rintro f e' ⟨⟩
    exact Nat.lt_succ_self _
  | handlerTimeout =>
    exact (supervisorWf_halted_iff rfl).2 ⟨⟨_, _, rfl, rfl⟩, herr.mono rfl (Nat.le_succ _)⟩

/-- Every operation keeps the supervisor's part of the invariant: what writes the pending mark or starts a frame is admitted in
`Idle` alone (45_frame_supervisor R291). -/
theorem exec_supervisorWf {i : Instr} (hs : s.supervisorWf) (h : exec i s = .next t) : t.supervisorWf := by
  cases i
  case setbtn port mask =>
    obtain ⟨c, r, rfl⟩ := exec_setbtn_next h
    exact hs
  all_goals obtain ⟨hadm, rfl⟩ := guarded_eq_next_iff.1 h
  case reset | supInit => exact supervisorWf_of_init rfl
  case schedInit | schedTick => exact supervisorWf_congr_idle ((admission_hostCommand s).1 hadm).1 hs rfl
  case runframe p1 p2 => exact supervisorWf_runFrame ((admission_hostCommand s).1 hadm).1 hs p1 p2
  case setTimeout d => exact hs
  -- the others leave the supervisor and the pending mark
  all_goals exact supervisorWf_congr hs rfl rfl

end Supervisor

/-! ## The machine's invariant -/

section Invariant

variable {s t : State}

/-- The invariant, one conjunct per component. -/
theorem inv_iff : s.Inv ↔ s.cfg.wf = true ∧ s.mem.wf 65536 = true ∧ s.ppu.Wf s.cfg ∧ s.supervisorWf := by
  constructor
  · rintro ⟨hcfg, ⟨hmem, hvram, hoam⟩, hcount, hsup⟩
    exact ⟨hcfg, hmem, ⟨hvram, hoam, hcount⟩, hsup⟩
  · rintro ⟨hcfg, hmem, ⟨hvram, hoam, hcount⟩, hsup⟩
    exact ⟨hcfg, ⟨hmem, hvram, hoam⟩, hcount, hsup⟩

/-- The invariant says nothing of the fields the model adds for the ports. -/
theorem State.Inv.ports (h : s.Inv) (inputs : List Event) (issuer : Agent) :
    State.Inv { s with inputs := inputs, issuer := issuer } :=
  ⟨h.config, h.memories, h.counter, h.supervisor⟩

/-- A 16-bit address lies inside flat memory, so no operation breaks its form (20_memory R80). -/
theorem exec_memWf {i : Instr} (hm : s.mem.wf 65536 = true) (h : exec i s = .next t) : t.mem.wf 65536 = true := by
  obtain hmem | ⟨a, v, -, hmem⟩ := exec_mem_cases h
  · rw [hmem, hm]
  · rw [hmem, Memory.write_wf hm v a.isLt]

theorem exec_inv {i : Instr} (hs : s.Inv) (h : exec i s = .next t) : t.Inv := by
  obtain ⟨hcfg, hmem, hppu, hsup⟩ := inv_iff.1 hs
  rw [inv_iff, exec_cfg h]
  exact ⟨hcfg, exec_memWf hmem h, exec_ppuWf hcfg hppu h, exec_supervisorWf hsup h⟩

theorem returnFromHandler_inv (hs : s.Inv) (hp : s.sup.phase = .inHandler) : (returnFromHandler s).Inv :=
  ⟨hs.config, hs.memories, hs.counter, supervisorWf_returnFromHandler hp hs.supervisor⟩

theorem raiseException_inv (hs : s.Inv) (hp : s.sup.phase = .inHandler) (x : HandlerException) : (raiseException x s).Inv := by
  obtain ⟨hcfg, hmem, hppu, hsup⟩ := inv_iff.1 hs
  rw [inv_iff, raiseException_cfg, raiseException_mem, raiseException_ppu]
  exact ⟨hcfg, hmem, hppu, supervisorWf_raiseException hp hsup x⟩

end Invariant

/-- Settles O43: every operation and every end of an invocation keeps the invariant, component by component. -/
theorem stepKeepsInvariant : Obligations.StepKeepsInvariant := by
  intro s t hs h
  obtain rfl | ⟨i, rest, agent, -, he⟩ | ⟨hp, rest, rfl⟩ | ⟨hp, rest, x, rfl⟩ := step_next_kinds h
  · exact hs
  · exact exec_inv (hs.ports rest agent) he
  · exact returnFromHandler_inv (hs.ports rest s.issuer) hp
  · exact raiseException_inv (hs.ports rest s.issuer) hp x

end Sys2Proof.Machine

namespace Sys2Proof.Machine

/-! ## The mirrors of the PPU registers -/

section Mirrors

variable {cfg : Config} {a b : Addr} {r : PpuReg} {v : Byte}

theorem reaches_iff : reaches cfg r a = true ↔ inPpuWindow cfg a = true ∧ ppuRegister cfg (ppuIndex a) = r := by
  simp [reaches]

theorem reaches_of_index (hwin : inPpuWindow cfg a = true) {idx : BitVec 3} (hr : ppuRegister cfg idx = r)
    (hidx : a.extractLsb' 0 3 = idx) : reaches cfg r a = true :=
  reaches_iff.2 ⟨hwin, by rw [ppuIndex, hidx, hr]⟩

theorem decode_write_of_reaches (h : reaches cfg r a = true) : decode cfg (.bus (busWord true a v)) = .ok (ppuWrite r a v) := by
  obtain ⟨hwin, hreg⟩ := reaches_iff.1 h
  simp [decode, decodeBus, decodeWrite, hwin, hreg]

theorem decode_read_of_reaches (h : reaches cfg r a = true) : decode cfg (.bus (busWord false a v)) = .ok (ppuRead r a) := by
  obtain ⟨hwin, hreg⟩ := reaches_iff.1 h
  simp [decode, decodeBus, decodeRead, hwin, hreg]

/-- The address of a register operation has done its work in the decoder (30_encoding R124). -/
theorem exec_ppuWrite_addr (r : PpuReg) (a b : Addr) (v : Byte) (s : State) : exec (ppuWrite r a v) s = exec (ppuWrite r b v) s := by
  cases r <;> rfl

theorem exec_ppuRead_addr (r : PpuReg) (a b : Addr) (s : State) : exec (ppuRead r a) s = exec (ppuRead r b) s := by
  cases r <;> rfl

/-- Two words whose operations mean the same make the same step. -/
theorem step_port_congr {s : State} {agent : Agent} {w w' : PortWord} {rest : List Event} {i j : Instr}
    (hi : decode s.cfg w = .ok i) (hj : decode s.cfg w' = .ok j) (hij : ∀ u, exec i u = exec j u) :
    step { s with inputs := .port agent w :: rest } = step { s with inputs := .port agent w' :: rest } :=
  calc step { s with inputs := .port agent w :: rest }
    _ = exec i { s with inputs := rest, issuer := agent } := step_port_of_decode rfl hi
    _ = exec j { s with inputs := rest, issuer := agent } := hij _
    _ = step { s with inputs := .port agent w' :: rest } := Eq.symm (step_port_of_decode rfl hj)

/-- Two addresses of one register make the same step, in either direction (20_memory R90). -/
theorem step_bus_of_reaches {s : State} {agent : Agent} {rw : Bool} {rest : List Event}
    (ha : reaches s.cfg r a = true) (hb : reaches s.cfg r b = true) :
    step { s with inputs := .port agent (.bus (busWord rw a v)) :: rest } =
      step { s with inputs := .port agent (.bus (busWord rw b v)) :: rest } := by
  cases rw with
  | true => exact step_port_congr (decode_write_of_reaches ha) (decode_write_of_reaches hb) (exec_ppuWrite_addr r a b v)
  | false => exact step_port_congr (decode_read_of_reaches ha) (decode_read_of_reaches hb) (exec_ppuRead_addr r a b)

/-- An address at a register's index decodes to that register's write and read (30_encoding R129). -/
theorem decode_of_index (hwin : inPpuWindow cfg a = true) {idx : BitVec 3} (hr : ppuRegister cfg idx = r)
    (hidx : a.extractLsb' 0 3 = idx) :
    decode cfg (.bus (busWord true a v)) = .ok (ppuWrite r a v) ∧ decode cfg (.bus (busWord false a v)) = .ok (ppuRead r a) :=
  have h := reaches_of_index hwin hr hidx
  ⟨decode_write_of_reaches h, decode_read_of_reaches h⟩

end Mirrors

/-- Settles O42: the decoder reads the window and the low three bits of the address, and no register's meaning reads more. -/
theorem mirrorsReachSameRegister : Obligations.MirrorsReachSameRegister := by
  refine ⟨?mirrors, ?indices⟩
  case mirrors =>
    intro s agent rw a b v rest ha hb hab
    exact step_bus_of_reaches (reaches_of_index ha rfl hab) (reaches_of_index hb rfl rfl)
  case indices =>
    intro cfg a v hcfg hwin
    obtain ⟨hctrl, hmask, hstatus, hoamAddr, hoamData, hscroll, haddr, hdata⟩ := ppuRegister_index hcfg
    exact ⟨decode_of_index hwin hctrl, decode_of_index hwin hmask, decode_of_index hwin hstatus, decode_of_index hwin hoamAddr,
      decode_of_index hwin hoamData, decode_of_index hwin hscroll, decode_of_index hwin haddr, decode_of_index hwin hdata⟩

/-! ## What every step leaves around the block -/

section Surroundings

variable {s t : State}

theorem runFrame_sameSurroundings (p1 p2 : Byte) : s.sameSurroundings (runFrame p1 p2 s) := by
  obtain ⟨-, h⟩ | ⟨-, h⟩ := runFrame_cases s p1 p2 <;> rw [h] <;> exact ⟨rfl, rfl, rfl, rfl⟩

/-- No operation writes the parameters, the movie, the waiting events or its issuer (70_reset_and_hazards R352). -/
theorem exec_sameSurroundings {i : Instr} (h : exec i s = .next t) : s.sameSurroundings t := by
  cases i
  case setbtn port mask =>
    obtain ⟨c, r, rfl⟩ := exec_setbtn_next h
    exact ⟨rfl, rfl, rfl, rfl⟩
  case runframe p1 p2 =>
    obtain ⟨-, rfl⟩ := guarded_eq_next_iff.1 h
    exact runFrame_sameSurroundings p1 p2
  all_goals
    obtain ⟨-, rfl⟩ := guarded_eq_next_iff.1 h
    exact ⟨rfl, rfl, rfl, rfl⟩

@[simp] theorem raiseException_movie (x : HandlerException) : (raiseException x s).movie = s.movie := by cases x <;> rfl

/-- No step writes the parameters or the movie (70_reset_and_hazards R352). -/
theorem step_cfg_movie (h : step s = .next t) : t.cfg = s.cfg ∧ t.movie = s.movie := by
  obtain rfl | ⟨i, rest, agent, -, he⟩ | ⟨-, rest, rfl⟩ | ⟨-, rest, x, rfl⟩ := step_next_kinds h
  · exact ⟨rfl, rfl⟩
  · obtain ⟨hcfg, hmovie, -, -⟩ := exec_sameSurroundings he
    exact ⟨hcfg, hmovie⟩
  · simp
  · simp

end Surroundings

/-- Settles O45: the decoder reads the parameters alone, and no step writes them. -/
theorem noStepChangesDecoding : Obligations.NoStepChangesDecoding := by
  intro s t h
  obtain ⟨hcfg, hmovie⟩ := step_cfg_movie h
  exact ⟨hcfg, hmovie, fun word => by rw [hcfg]⟩

end Sys2Proof.Machine

namespace Sys2Proof.Machine

/-! ## The encoder and the decoder, direction by direction -/

section Encoding

variable {cfg : Config} {i : Instr}

theorem decode_busWord_write (cfg : Config) (a : Addr) (v : Byte) :
    decode cfg (.bus (busWord true a v)) = .ok (decodeWrite cfg a v) := by
  simp [decode, decodeBus]

/-- The data byte of a read is not examined (30_encoding R120). -/
theorem decode_busWord_read (cfg : Config) (a : Addr) (v : Byte) :
    decode cfg (.bus (busWord false a v)) = .ok (decodeRead cfg a) := by
  simp [decode, decodeBus]

theorem readsPad_iff {p : PadPort} {a : Addr} : readsPad cfg p a = true ↔ hasPort cfg p = true ∧ a = padAddress cfg p := by
  simp [readsPad]

/-- A BUS operation whose address reaches the right arm of `Decode` comes back from its word (43_io_dispatcher R240). -/
theorem decode_encode_of_bus (hbus : codeOf i = none) (h : wellFormed cfg i = true) : decode cfg (encode cfg i) = .ok i := by
  cases i
  case oamdmaWr page =>
    have hwin : inPpuWindow cfg cfg.aOamDma = false := by simpa [wellFormed] using h
    simp [encode, encodeWrite, decode_busWord_write, decodeWrite, hwin]
  case strobeWr value =>
    obtain ⟨hwin, hdma⟩ : inPpuWindow cfg cfg.aStrobe = false ∧ cfg.aStrobe ≠ cfg.aOamDma := by simpa [wellFormed] using h
    simp [encode, encodeWrite, decode_busWord_write, decodeWrite, hwin, hdma]
  case memWr a v =>
    obtain ⟨⟨hwin, hdma⟩, hstrobe⟩ : (inPpuWindow cfg a = false ∧ a ≠ cfg.aOamDma) ∧ a ≠ cfg.aStrobe := by
      simpa [wellFormed, passesOnWrite] using h
    simp [encode, encodeWrite, decode_busWord_write, decodeWrite, hwin, hdma, hstrobe]
  case pad0Rd =>
    obtain ⟨hwin, hport⟩ : inPpuWindow cfg cfg.aPad0 = false ∧ hasPort cfg .port0 = true := by simpa [wellFormed] using h
    have hpad0 : readsPad cfg .port0 cfg.aPad0 = true := readsPad_iff.2 ⟨hport, rfl⟩
    simp [encode, encodeRead, decode_busWord_read, decodeRead, hwin, hpad0]
  case pad1Rd =>
    obtain ⟨⟨hwin, hpad0⟩, hport⟩ :
        (inPpuWindow cfg cfg.aPad1 = false ∧ readsPad cfg .port0 cfg.aPad1 = false) ∧ hasPort cfg .port1 = true := by
      simpa only [wellFormed, Bool.and_eq_true, Bool.not_eq_true'] using h
    have hpad1 : readsPad cfg .port1 cfg.aPad1 = true := readsPad_iff.2 ⟨hport, rfl⟩
    simp [encode, encodeRead, decode_busWord_read, decodeRead, hwin, hpad0, hpad1]
  case memRd a =>
    obtain ⟨⟨hwin, hpad0⟩, hpad1⟩ :
        (inPpuWindow cfg a = false ∧ readsPad cfg .port0 a = false) ∧ readsPad cfg .port1 a = false := by
      simpa only [wellFormed, passesOnRead, Bool.and_eq_true, Bool.not_eq_true'] using h
    simp [encode, encodeRead, decode_busWord_read, decodeRead, hwin, hpad0, hpad1]
  case ppuWr0Ctrl | ppuWr1Mask | ppuWr2Status | ppuWr3Oamaddr | ppuWr4Oamdata | ppuWr5Scroll | ppuWr6Addr | ppuWr7Data =>
    exact decode_write_of_reaches h
  case ppuRd0Ctrl | ppuRd1Mask | ppuRd2Status | ppuRd3Oamaddr | ppuRd4Oamdata | ppuRd5Scroll | ppuRd6Addr | ppuRd7Data =>
    exact decode_read_of_reaches h
  all_goals cases hbus

/-- A command comes back from its word: the code selects it, and its operands are the fields it wrote (30_encoding R123). -/
theorem decode_encode_of_command {op : Byte} (hcmd : codeOf i = some op) : decode cfg (encode cfg i) = .ok i := by
  cases i <;> cases hcmd
  all_goals simp [encode, decode, decodeCmd]

theorem decode_encode (h : wellFormed cfg i = true) : decode cfg (encode cfg i) = .ok i := by
  cases hcode : codeOf i with
  | none => exact decode_encode_of_bus hcode h
  | some op => exact decode_encode_of_command hcode

/-- A word written out is decoded by encoding the operation it should be. -/
theorem decode_of_encode {w : PortWord} (h : wellFormed cfg i = true) (hw : encode cfg i = w) :
    decode cfg w = .ok i :=
  hw ▸ decode_encode h

/-- The arm of `Decode` a write takes gives an operation that belongs to its address. -/
theorem decodeWrite_wellFormed_encode (cfg : Config) (a : Addr) (v : Byte) :
    wellFormed cfg (decodeWrite cfg a v) = true ∧ encode cfg (decodeWrite cfg a v) = encodeWrite a v := by
  unfold decodeWrite
  split
  · next hwin => cases hreg : ppuRegister cfg (ppuIndex a) <;> exact ⟨reaches_iff.2 ⟨hwin, hreg⟩, rfl⟩
  · next hwin =>
    split
    · next hdma => subst hdma; simp [wellFormed, encode, hwin]
    · next hdma =>
      split
      · next hstrobe => subst hstrobe; simp [wellFormed, encode, hwin, hdma]
      · next hstrobe => simp [wellFormed, encode, passesOnWrite, hwin, hdma, hstrobe]

theorem decodeRead_wellFormed_encode (cfg : Config) (a : Addr) :
    wellFormed cfg (decodeRead cfg a) = true ∧ encode cfg (decodeRead cfg a) = encodeRead a := by
  unfold decodeRead
  split
  · next hwin => cases hreg : ppuRegister cfg (ppuIndex a) <;> exact ⟨reaches_iff.2 ⟨hwin, hreg⟩, rfl⟩
  · next hwin =>
    split
    · next hpad0 =>
      obtain ⟨hport, rfl : a = cfg.aPad0⟩ := readsPad_iff.1 hpad0
      simp [wellFormed, encode, hwin, hport]
    · next hpad0 =>
      split
      · next hpad1 =>
        obtain ⟨hport, rfl : a = cfg.aPad1⟩ := readsPad_iff.1 hpad1
        simp [wellFormed, encode, hwin, hpad0, hport]
      · next hpad1 => simp [wellFormed, encode, passesOnRead, hwin, hpad0, hpad1]

/-- The upper 17 bits of a BUS word are its direction and its address. -/
theorem busWord_direction_address (rw : Bool) (a : Addr) (d : Byte) :
    (busWord rw a d).extractLsb' 8 17 = BitVec.ofBool rw ++ a :=
  BitVec.extractLsb'_append_eq_left

theorem wellFormed_of_codeOf {op : Byte} (h : codeOf i = some op) : wellFormed cfg i = true := by
  cases i <;> cases h <;> rfl

theorem encode_of_codeOf {op : Byte} (h : codeOf i = some op) : ∃ x, encode cfg i = .cmd (cmdWord op x) := by
  cases i <;> cases h <;> exact ⟨_, rfl⟩

/-- The decoder keeps the code (30_encoding R123). -/
theorem codeOf_of_decodeCmd {c : BitVec 32} (h : decodeCmd c = .ok i) : codeOf i = some (cmdOp c) := by
  unfold decodeCmd at h
  split at h <;> cases h
  all_goals next hop => exact congrArg some (BitVec.eq_of_toNat_eq hop.symm)

/-- A code above 0x0F selects nothing (30_encoding R130). -/
theorem decodeCmd_reserved {op : Byte} (h : 0x10 ≤ op.toNat) (x : BitVec 24) :
    decodeCmd (cmdWord op x) = .error (.reservedCommand op) := by
  unfold decodeCmd
  rw [cmdOp_cmdWord]
  split
  any_goals omega
  rfl

end Encoding

/-- Settles O39: the word's fields read back, and well-formedness says that `Decode` takes the operation's own arm. -/
theorem decodeEncodeRoundTrip : Obligations.DecodeEncodeRoundTrip :=
  fun _ _ => decode_encode

/-- Settles O40: each arm of the decoder gives an operation whose encoding is the word of the fields it examined. -/
theorem decodeIsOntoWellFormed : Obligations.DecodeIsOntoWellFormed := by
  refine ⟨fun cfg t => ?bus, fun cfg c i h => ?command⟩
  case bus =>
    rw [← busWord_fields t]
    generalize busAddr t = a, busData t = v
    cases busRw t with
    | true =>
      obtain ⟨hwf, henc⟩ := decodeWrite_wellFormed_encode cfg a v
      exact ⟨_, _, decode_busWord_write cfg a v, hwf, henc, rfl, fun _ => rfl⟩
    | false =>
      obtain ⟨hwf, henc⟩ := decodeRead_wellFormed_encode cfg a
      refine ⟨_, _, decode_busWord_read cfg a v, hwf, henc, ?_, fun hwrite => ?_⟩
      · rw [busWord_direction_address, busWord_direction_address]
      · exact absurd hwrite (ne_true_of_eq_false (busRw_busWord false a v))
  case command =>
    have hcode := codeOf_of_decodeCmd h
    obtain ⟨x, hx⟩ := encode_of_codeOf (cfg := cfg) hcode
    exact ⟨wellFormed_of_codeOf hcode, cmdWord (cmdOp c) x, hx, cmdOp_cmdWord _ _⟩

/-! ## The operation table's BUS rows, field by field -/

section Table

theorem busWord_and (rw rw' : Bool) (a a' : Addr) (d d' : Byte) :
    busWord rw a d &&& busWord rw' a' d' = busWord (rw && rw') (a &&& a') (d &&& d') := by
  have hupper : (BitVec.ofBool rw ++ a) &&& (BitVec.ofBool rw' ++ a') = BitVec.ofBool (rw && rw') ++ (a &&& a') := by
    rw [BitVec.and_append, BitVec.ofBool_and_ofBool]
  exact BitVec.and_append.trans (congrArg (· ++ (d &&& d')) hupper)

theorem busWord_inj {rw rw' : Bool} {a a' : Addr} {d d' : Byte} :
    busWord rw a d = busWord rw' a' d' ↔ rw = rw' ∧ a = a' ∧ d = d' := by
  refine ⟨fun h => ⟨?_, ?_, ?_⟩, ?_⟩
  · simpa using congrArg busRw h
  · simpa using congrArg busAddr h
  · simpa using congrArg busData h
  · rintro ⟨rfl, rfl, rfl⟩
    rfl

/-- A device row examines the direction and the whole address (30_encoding R129). -/
theorem deviceRow_matches (rw rw' : Bool) (a p : Addr) (d : Byte) :
    (busWord rw a d &&& 0x1FFFF00 == busWord rw' p 0) = (rw == rw' && a == p) := by
  rw [show (0x1FFFF00 : BitVec 25) = busWord true (BitVec.allOnes 16) 0 from rfl, busWord_and, Bool.eq_iff_iff]
  simp [busWord_inj, -BitVec.reduceAllOnes]

/-- A pass-through row examines the direction alone. -/
theorem passRow_matches (rw rw' : Bool) (a : Addr) (d : Byte) :
    (busWord rw a d &&& 0x1000000 == busWord rw' 0 0) = (rw == rw') := by
  rw [show (0x1000000 : BitVec 25) = busWord true 0 0 from rfl, busWord_and, Bool.eq_iff_iff]
  simp [busWord_inj]

/-- The windows of 00_scope R6 together are the addresses whose top three bits are 001. -/
theorem inPpuWindow_default_iff (a : Addr) : inPpuWindow Config.default a = true ↔ a.extractLsb' 13 3 = 1 := by
  rw [← BitVec.toNat_inj, BitVec.extractLsb'_toNat, Nat.shiftRight_eq_div_pow]
  simp only [inPpuWindow, inRange, Config.default, Bool.or_eq_true, Bool.and_eq_true, decide_eq_true_eq, BitVec.le_def,
    BitVec.ofNat_eq_ofNat, BitVec.toNat_ofNat]
  omega

/-- What the mask of the PPU rows leaves of a word: its direction, the top three address bits and the index. -/
def ppuSelector (rw : Bool) (top idx : BitVec 3) : BitVec 25 :=
  busWord rw (top ++ (0 : BitVec 10) ++ idx) 0

theorem and_ppuAddressMask (a : Addr) : a &&& 0xE007 = a.extractLsb' 13 3 ++ (0 : BitVec 10) ++ ppuIndex a := by
  apply BitVec.eq_of_getLsbD_eq
  intro j hj
  simp only [ppuIndex, BitVec.getLsbD_and, BitVec.getLsbD_append, BitVec.getLsbD_extractLsb']
  interval_cases j <;> simp

theorem and_ppuMask (rw : Bool) (a : Addr) (d : Byte) :
    busWord rw a d &&& 0x1E00700 = ppuSelector rw (a.extractLsb' 13 3) (ppuIndex a) := by
  rw [show (0x1E00700 : BitVec 25) = busWord true 0xE007 0 from rfl, busWord_and, and_ppuAddressMask]
  simp [ppuSelector]

theorem ppuRows_mask : ∀ r ∈ ppuRows, r.mask = 0x1E00700 := by decide

theorem ppuRows_top : ∀ r ∈ ppuRows, (busAddr r.pattern).extractLsb' 13 3 = 1 := by decide

theorem ppuRows_find (rw : Bool) (a : Addr) (d : Byte) :
    ppuRows.find? (fun r => busWord rw a d &&& r.mask == r.pattern) =
      ppuRows.find? (fun r => ppuSelector rw (a.extractLsb' 13 3) (ppuIndex a) == r.pattern) :=
  List.find?_congr fun r hr => by rw [ppuRows_mask r hr, and_ppuMask]

theorem ppuSelector_top (rw : Bool) (top idx : BitVec 3) : (busAddr (ppuSelector rw top idx)).extractLsb' 13 3 = top := by
  rw [ppuSelector, busAddr_busWord]
  exact (BitVec.extractLsb'_append_eq_of_le (by omega)).trans BitVec.extractLsb'_append_eq_left

theorem ppuRows_find_outside {rw : Bool} {top idx : BitVec 3} (h : top ≠ 1) :
    ppuRows.find? (fun r => ppuSelector rw top idx == r.pattern) = none := by
  rw [List.find?_eq_none]
  intro r hr heq
  have hpat : ppuSelector rw top idx = r.pattern := by simpa using heq
  exact h (by rw [← ppuSelector_top rw top idx, hpat, ppuRows_top r hr])

theorem ppuRows_find_window : ∀ (rw : Bool) (idx : BitVec 3),
    (ppuRows.find? (fun r => ppuSelector rw 1 idx == r.pattern)).map (·.mnemonic) =
      some (mnemonicOf (if rw then ppuWrite (ppuRegister Config.default idx) 0 0
        else ppuRead (ppuRegister Config.default idx) 0)) := by
  decide

theorem mnemonicOf_ppuWrite (r : PpuReg) (a : Addr) (v : Byte) : mnemonicOf (ppuWrite r a v) = mnemonicOf (ppuWrite r 0 0) := by
  cases r <;> rfl

theorem mnemonicOf_ppuRead (r : PpuReg) (a : Addr) : mnemonicOf (ppuRead r a) = mnemonicOf (ppuRead r 0) := by
  cases r <;> rfl

theorem otherBusRows_eq : otherBusRows = [
    ⟨"OAMDMA_WR", busWord true 0x4014 0, 0x1FFFF00⟩, ⟨"STROBE_WR", busWord true 0x4016 0, 0x1FFFF00⟩,
    ⟨"PAD0_RD", busWord false 0x4016 0, 0x1FFFF00⟩, ⟨"PAD1_RD", busWord false 0x4017 0, 0x1FFFF00⟩,
    ⟨"MEM_RD", busWord false 0 0, 0x1000000⟩, ⟨"MEM_WR", busWord true 0 0, 0x1000000⟩] := rfl

/-- First match in the table after the PPU rows. -/
theorem otherBusRows_find_write (a : Addr) (d : Byte) :
    (otherBusRows.find? (fun r => busWord true a d &&& r.mask == r.pattern)).map (·.mnemonic) =
      some (if a = 0x4014 then "OAMDMA_WR" else if a = 0x4016 then "STROBE_WR" else "MEM_WR") := by
  simp only [otherBusRows_eq, List.find?_cons, deviceRow_matches, passRow_matches]
  by_cases hdma : a = 0x4014#16
  · simp [hdma]
  · by_cases hstrobe : a = 0x4016#16 <;> simp [beq_eq_decide, hdma, hstrobe]

theorem otherBusRows_find_read (a : Addr) (d : Byte) :
    (otherBusRows.find? (fun r => busWord false a d &&& r.mask == r.pattern)).map (·.mnemonic) =
      some (if a = 0x4016 then "PAD0_RD" else if a = 0x4017 then "PAD1_RD" else "MEM_RD") := by
  simp only [otherBusRows_eq, List.find?_cons, deviceRow_matches, passRow_matches]
  by_cases hpad0 : a = 0x4016#16
  · simp [hpad0]
  · by_cases hpad1 : a = 0x4017#16 <;> simp [beq_eq_decide, hpad0, hpad1]

/-- In a window the row is the register's, by direction and index. -/
theorem busRowOf_busWord_window (rw : Bool) (a : Addr) (d : Byte) (hwin : inPpuWindow Config.default a = true) :
    busRowOf (busWord rw a d) = some (mnemonicOf (if rw then ppuWrite (ppuRegister Config.default (ppuIndex a)) a d
      else ppuRead (ppuRegister Config.default (ppuIndex a)) a)) := by
  have hrow := ppuRows_find_window rw (ppuIndex a)
  rw [busRowOf, busRows, List.find?_append, ppuRows_find, (inPpuWindow_default_iff a).1 hwin, Option.map_or, hrow, Option.some_or]
  cases rw with
  | true => exact congrArg some (mnemonicOf_ppuWrite _ a d).symm
  | false => exact congrArg some (mnemonicOf_ppuRead _ a).symm

/-- Outside the windows no PPU row matches. -/
theorem busRowOf_busWord_outside (rw : Bool) (a : Addr) (d : Byte) (hwin : inPpuWindow Config.default a ≠ true) :
    busRowOf (busWord rw a d) =
      (otherBusRows.find? (fun r => busWord rw a d &&& r.mask == r.pattern)).map (·.mnemonic) := by
  rw [busRowOf, busRows, List.find?_append, ppuRows_find, ppuRows_find_outside (mt (inPpuWindow_default_iff a).2 hwin),
    Option.none_or]

theorem busRowOf_write (a : Addr) (d : Byte) :
    busRowOf (busWord true a d) = some (mnemonicOf (decodeWrite Config.default a d)) := by
  unfold decodeWrite
  split
  · next hwin => exact busRowOf_busWord_window true a d hwin
  · next hwin =>
    rw [busRowOf_busWord_outside true a d hwin, otherBusRows_find_write, apply_ite mnemonicOf, apply_ite mnemonicOf]
    rfl

theorem readsPad_default_iff (p : PadPort) (a : Addr) : readsPad Config.default p a = true ↔ a = padAddress Config.default p := by
  rw [readsPad_iff]
  cases p <;> simp [hasPort, Config.default]

theorem busRowOf_read (a : Addr) (d : Byte) :
    busRowOf (busWord false a d) = some (mnemonicOf (decodeRead Config.default a)) := by
  unfold decodeRead
  split
  · next hwin => exact busRowOf_busWord_window false a d hwin
  · next hwin =>
    rw [busRowOf_busWord_outside false a d hwin, otherBusRows_find_read, apply_ite mnemonicOf, apply_ite mnemonicOf]
    simp only [readsPad_default_iff]
    rfl

end Table

/-- Settles O41: the PPU rows match exactly the words of the windows, each by its index, and the other rows follow the order of
`Decode`. -/
theorem busDecodeIsFirstTableMatch : Obligations.BusDecodeIsFirstTableMatch := by
  intro t
  rw [← busWord_fields t]
  generalize busAddr t = a, busData t = d
  cases busRw t with
  | true => simpa [decodeBus] using busRowOf_write a d
  | false => simpa [decodeBus] using busRowOf_read a d

/-! ## The words of the spec and the reserved codes -/

/-- Settles O3: the decoder rejects the code by name, and the step passes the rejection on. -/
theorem reservedCommandRefused : Obligations.ReservedCommandRefused := by
  intro s agent op x rest hop hin
  have hdec : decode s.cfg (.cmd (cmdWord op x)) = .error (.reservedCommand op) := decodeCmd_reserved hop x
  rw [step_event hin]
  simp [runEvent, runWord, hdec]

/-- Settles O38: each word is the encoding of its well-formed operation, or one of the reserved codes. -/
theorem specWordsDecode : Obligations.SpecWordsDecode := by
  refine ⟨?_, ?_, ?_, ?_, ?_, ?_, ?_, ?_, ?_, ?_, ?_, ?reserved⟩
  case reserved => exact decodeCmd_reserved (by decide : 0x10 ≤ (0x10 : Byte).toNat) 0
  all_goals exact decode_of_encode (by decide) rfl

end Sys2Proof.Machine

namespace Sys2Proof.Machine

/-! ## The controller device -/

section Controller

@[simp] theorem PerPort.get_set (x : PerPort) (p : PadPort) (v : Byte) : (x.set p v).get p = v := by cases p <;> rfl

theorem PerPort.get_set_other (x : PerPort) (v : Byte) : ∀ {p q : PadPort}, q ≠ p → (x.set p v).get q = x.get q
  | .port0, .port1, _ | .port1, .port0, _ => rfl
  | .port0, .port0, h | .port1, .port1, h => absurd rfl h

variable {c : Ctl} (fill : Bool) (p : PadPort)

/-- A strobe write copies the buttons exactly where it changes the strobe (40_controller R161). -/
theorem Ctl.writeStrobe_eq (c : Ctl) (value : Byte) :
    c.writeStrobe value =
      { c with
        strobeState := value.getLsbD 0
        shiftRegister := if c.strobeState = value.getLsbD 0 then c.shiftRegister else c.buttonState } := by
  unfold Ctl.writeStrobe strobeBit Ctl.latch
  by_cases h : c.strobeState = value.getLsbD 0
  · simp only [if_pos h]
  · simp only [if_neg h]

/-- The falling edge latches the masks. -/
theorem Ctl.writeStrobe_fall {value : Byte} (h : c.strobeState = true) (hv : value.getLsbD 0 = false) :
    c.writeStrobe value = { c with strobeState := false, shiftRegister := c.buttonState } := by
  rw [Ctl.writeStrobe_eq, h, hv, if_neg Bool.noConfusion]

theorem Ctl.padRead_high (h : c.strobeState = true) : c.padRead fill p = c.latch := by
  simp [Ctl.padRead, h]

theorem Ctl.padRead_low (h : c.strobeState = false) :
    c.padRead fill p = { c with shiftRegister := c.shiftRegister.set p (serialShift fill (c.shiftRegister.get p)) } := by
  simp [Ctl.padRead, h]

theorem Ctl.padByte_high (h : c.strobeState = true) : c.padByte p = zext8 ((c.buttonState.get p).getLsbD 0) := by
  simp [Ctl.padByte, Ctl.seen, Ctl.latch, h]

theorem Ctl.padByte_low (h : c.strobeState = false) : c.padByte p = zext8 ((c.shiftRegister.get p).getLsbD 0) := by
  simp [Ctl.padByte, Ctl.seen, h]

@[simp] theorem Ctl.padRead_buttonState : (c.padRead fill p).buttonState = c.buttonState := by
  cases h : c.strobeState <;> simp [Ctl.padRead, Ctl.latch, h]

@[simp] theorem Ctl.padRead_strobeState : (c.padRead fill p).strobeState = c.strobeState := by
  cases h : c.strobeState <;> simp [Ctl.padRead, Ctl.latch, h]

variable (s : State)

theorem exec_padInstr : exec (padInstr p) s = guarded .bus s (readController p s) := by
  cases p <;> rfl

theorem exec_setbtn_of_some {port : Byte} (mask : Byte) (h : padOf s.cfg port = some p) :
    exec (.setbtn port mask) s = guarded .hostCommand s { s with ctl := s.ctl.setButtons p mask, reply := .ok } := by
  rw [exec_setbtn, h]
  simp [setButtons, hasPort_of_padOf h, State.answer]

theorem exec_setbtn_of_none {port : Byte} (mask : Byte) (h : padOf s.cfg port = none) :
    exec (.setbtn port mask) s = guarded .hostCommand s { s with reply := .ignored } := by
  rw [exec_setbtn, h, State.answer]

end Controller

/-- Settles O16: with the strobe high the read re-latches, with it low the register shifts. -/
theorem padReadLatchesOrShifts : Obligations.PadReadLatchesOrShifts := by
  intro p s hadm
  rw [exec_padInstr, guarded_next ((admission_bus s).2 hadm), readController]
  refine ⟨fun hhigh => ?high, fun hlow => ⟨serialShift s.cfg.ctlFillBit (s.ctl.shiftRegister.get p), ?low, ?fill, ?shift⟩⟩
  case high => rw [Ctl.padRead_high _ p hhigh, Ctl.padByte_high p hhigh, zext8_eq, Ctl.latch]
  case low => rw [Ctl.padRead_low _ p hlow, Ctl.padByte_low p hlow, zext8_eq]
  case fill => rw [serialShift_getLsbD _ _ 7 (by omega), if_pos rfl]
  case shift =>
    intro k hk
    rw [serialShift_getLsbD _ _ k (by omega), if_neg (by omega)]

/-- Settles O14: the port operand selects port 0, port 1 or none. -/
theorem setButtonsStoresOrIgnores : Obligations.SetButtonsStoresOrIgnores := by
  intro port mask s hadm
  have hnext := guarded_next ((admission_hostCommand s).2 hadm)
  refine ⟨fun hport hexists => ?port0, fun hport hexists => ?port1, fun hout => ?out⟩
  case port0 =>
    obtain rfl : port = 0 := BitVec.eq_of_toNat_eq hport
    exact (exec_setbtn_of_some .port0 s mask (padOf_port0 hexists)).trans (hnext _)
  case port1 =>
    obtain rfl : port = 1 := BitVec.eq_of_toNat_eq hport
    exact (exec_setbtn_of_some .port1 s mask (padOf_port1 hexists)).trans (hnext _)
  case out => exact (exec_setbtn_of_none s mask (padOf_out hout)).trans (hnext _)

/-- Settles O15: a strobe write's effect, admitted. -/
theorem strobeWriteLatchesOnEdges : Obligations.StrobeWriteLatchesOnEdges := by
  intro value s hadm
  rw [exec_strobeWr, guarded_next ((admission_bus s).2 hadm), Ctl.writeStrobe_eq]

/-- Settles O25: the reset device states, whose memories list no byte. -/
theorem deviceResets : Obligations.DeviceResets := by
  intro s hadm
  have hnext := guarded_next ((admission_hostCommand s).2 hadm)
  refine ⟨?ctl, [], [], ?ppu, Memory.read_nil, Memory.read_nil⟩
  case ctl => exact (exec_ctlReset s).trans (hnext _)
  case ppu => exact (exec_ppuReset s).trans (hnext _)

/-! ## What the controller's operations leave unchanged -/

section ControllerFrame

variable {s t : State} {p : PadPort} {port mask value : Byte}

/-- A serial read of one port never shifts the other's register (40_controller R162). -/
theorem Ctl.padRead_low_other {c : Ctl} (fill : Bool) (h : c.strobeState = false) {q : PadPort} (hq : q ≠ p) :
    (c.padRead fill p).shiftRegister.get q = c.shiftRegister.get q := by
  rw [Ctl.padRead_low fill p h, PerPort.get_set_other _ _ hq]

/-- A port operand selects the port it names. -/
theorem eq_of_padOf {cfg : Config} (h : padOf cfg port = some p) :
    (p = .port0 ∧ port = 0) ∨ (p = .port1 ∧ port = 1) := by
  obtain ⟨hsel, -⟩ := Option.filter_eq_some_iff.1 h
  split at hsel
  · next h0 => exact .inl ⟨(Option.some.inj hsel).symm, h0⟩
  · split at hsel
    · next h1 => exact .inr ⟨(Option.some.inj hsel).symm, h1⟩
    · cases hsel

/-- SETBTN stores in the port its operand selects, or nothing (40_controller R160). -/
theorem exec_setbtn_ctl (h : exec (.setbtn port mask) s = .next t) :
    t.ctl = s.ctl ∨ ∃ p, padOf s.cfg port = some p ∧ t.ctl = s.ctl.setButtons p mask := by
  cases hpad : padOf s.cfg port with
  | none =>
    obtain ⟨-, rfl⟩ := guarded_eq_next_iff.1 (exec_setbtn_of_none s mask hpad ▸ h)
    exact .inl rfl
  | some p =>
    obtain ⟨-, rfl⟩ := guarded_eq_next_iff.1 (exec_setbtn_of_some p s mask hpad ▸ h)
    exact .inr ⟨p, rfl, rfl⟩

theorem exec_setbtn_keeps_serial (h : exec (.setbtn port mask) s = .next t) :
    t.ctl.shiftRegister = s.ctl.shiftRegister ∧ t.ctl.strobeState = s.ctl.strobeState := by
  obtain hctl | ⟨p, -, hctl⟩ := exec_setbtn_ctl h <;> rw [hctl] <;> exact ⟨rfl, rfl⟩

theorem exec_setbtn_keeps_buttons (h : exec (.setbtn port mask) s = .next t) :
    (port ≠ 0 → t.ctl.buttonState.port0 = s.ctl.buttonState.port0) ∧
    (port ≠ 1 → t.ctl.buttonState.port1 = s.ctl.buttonState.port1) := by
  obtain hctl | ⟨p, hpad, hctl⟩ := exec_setbtn_ctl h <;> rw [hctl]
  · exact ⟨fun _ => rfl, fun _ => rfl⟩
  · obtain ⟨rfl, rfl⟩ | ⟨rfl, rfl⟩ := eq_of_padOf hpad
    · exact ⟨fun hne => absurd rfl hne, fun _ => rfl⟩
    · exact ⟨fun _ => rfl, fun hne => absurd rfl hne⟩

/-- The device's operations write the device and the reply alone. -/
theorem exec_controller_next {i : Instr}
    (hi : i = .strobeWr value ∨ i = .pad0Rd ∨ i = .pad1Rd ∨ i = .setbtn port mask ∨ i = .ctlReset) (h : exec i s = .next t) :
    ∃ c r, t = { s with ctl := c, reply := r } := by
  obtain rfl | rfl | rfl | rfl | rfl := hi
  · exact ⟨_, _, (guarded_eq_next_iff.1 (exec_strobeWr s value ▸ h)).2.symm⟩
  · exact ⟨_, _, (guarded_eq_next_iff.1 (exec_pad0Rd s ▸ h)).2.symm⟩
  · exact ⟨_, _, (guarded_eq_next_iff.1 (exec_pad1Rd s ▸ h)).2.symm⟩
  · exact exec_setbtn_next h
  · exact ⟨_, _, (guarded_eq_next_iff.1 (exec_ctlReset s ▸ h)).2.symm⟩

/-- A serial read writes the registers alone, and with the strobe low the register of its port alone. -/
theorem exec_padInstr_frame (h : exec (padInstr p) s = .next t) :
    t.ctl.buttonState = s.ctl.buttonState ∧ t.ctl.strobeState = s.ctl.strobeState ∧
    ∀ q, q ≠ p → s.ctl.strobeState = false → t.ctl.shiftRegister.get q = s.ctl.shiftRegister.get q := by
  obtain ⟨-, rfl⟩ := guarded_eq_next_iff.1 (exec_padInstr p s ▸ h)
  exact ⟨by simp, by simp, fun q hq hlow => Ctl.padRead_low_other _ hlow hq⟩

end ControllerFrame

/-- Settles O32: the components outside the device for all five operations at once, the device's parts one operation at a time. -/
theorem frameOfControllerOperations : Obligations.FrameOfControllerOperations := by
  intro value port mask i s t hi h
  have hsurroundings := exec_sameSurroundings h
  obtain ⟨hppu, hsched, hsup, hmem⟩ : t.ppu = s.ppu ∧ t.sched = s.sched ∧ t.sup = s.sup ∧ t.mem = s.mem := by
    obtain ⟨c, r, rfl⟩ := exec_controller_next hi h
    exact ⟨rfl, rfl, rfl, rfl⟩
  refine ⟨hppu, hsched, hsup, fun a => by rw [hmem], hsurroundings, ?device⟩
  obtain rfl | rfl | rfl | rfl | rfl := hi
  · obtain ⟨-, rfl⟩ := guarded_eq_next_iff.1 (exec_strobeWr s value ▸ h)
    simp [Ctl.writeStrobe_eq]
  · obtain ⟨hbuttons, hstrobe, hother⟩ := exec_padInstr_frame (p := .port0) h
    simpa [hbuttons, hstrobe, PerPort.get] using hother .port1 nofun
  · obtain ⟨hbuttons, hstrobe, hother⟩ := exec_padInstr_frame (p := .port1) h
    simpa [hbuttons, hstrobe, PerPort.get] using hother .port0 nofun
  · obtain ⟨hserial, hstrobe⟩ := exec_setbtn_keeps_serial h
    obtain ⟨hport0, hport1⟩ := exec_setbtn_keeps_buttons h
    simpa [hserial, hstrobe] using ⟨hport0, hport1⟩
  · simp

/-! ## Runs of steps -/

section Runs

variable {s t : State} {k : Nat}

theorem replies_succ_of_step (h : step s = .next t) : replies (k + 1) s = (replies k t).map (t.reply :: ·) := by
  simp [replies, h]

theorem run_succ_of_step (h : step s = .next t) : Host.Core.run core (k + 1) s = Host.Core.run core k t := by
  simp [Host.Core.run, core, h]

variable {agent : Agent} {rest : List Event}

/-- A well-formed BUS operation of the ports' owner takes its step (43_io_dispatcher R251). -/
theorem step_bus_of_owner {i : Instr} {effect : State → State} (hexec : ∀ u, exec i u = guarded .bus u (effect u))
    (hown : s.ownedBy agent) (hwf : wellFormed s.cfg i = true) (hin : s.inputs = .port agent (encode s.cfg i) :: rest) :
    step s = .next (effect { s with inputs := rest, issuer := agent }) := by
  have hadm : State.busAdmitted { s with inputs := rest, issuer := agent } := hown
  rw [step_port_of_decode hin (decode_encode hwf), hexec, guarded_next ((admission_bus _).2 hadm)]

/-- A serial read by the ports' owner (40_controller R162); the owner keeps the ports. -/
theorem step_padInstr {p : PadPort} (hown : s.ownedBy agent) (hwf : wellFormed s.cfg (padInstr p) = true)
    (hin : s.inputs = .port agent (encode s.cfg (padInstr p)) :: rest) :
    ∃ t, step s = .next t ∧ t.ownedBy agent ∧ t.cfg = s.cfg ∧ t.inputs = rest ∧
      t.reply = .byte (s.ctl.padByte p) ∧ t.ctl = s.ctl.padRead s.cfg.ctlFillBit p :=
  ⟨_, step_bus_of_owner (exec_padInstr p) hown hwf hin, hown, rfl, rfl, rfl, rfl⟩

/-- A strobe write by the ports' owner (40_controller R161). -/
theorem step_strobeWr {value : Byte} (hown : s.ownedBy agent) (hwf : wellFormed s.cfg (.strobeWr value) = true)
    (hin : s.inputs = .port agent (encode s.cfg (.strobeWr value)) :: rest) :
    ∃ t, step s = .next t ∧ t.ownedBy agent ∧ t.cfg = s.cfg ∧ t.inputs = rest ∧
      t.reply = .ok ∧ t.ctl = s.ctl.writeStrobe value :=
  ⟨_, step_bus_of_owner (exec_strobeWr · value) hown hwf hin, hown, rfl, rfl, rfl, rfl⟩

end Runs

/-! ## Consecutive serial reads of one port -/

/-- The device after `k` serial reads of port `p`. -/
def Ctl.padReads (fill : Bool) (p : PadPort) (k : Nat) (c : Ctl) : Ctl :=
  (fun d => d.padRead fill p)^[k] c

section SerialReads

variable {c : Ctl} {fill : Bool} {p : PadPort} {k : Nat}

@[simp] theorem Ctl.padReads_zero : c.padReads fill p 0 = c := rfl

/-- The last of `k + 1` reads follows the first `k`. -/
theorem Ctl.padReads_succ_last : c.padReads fill p (k + 1) = (c.padReads fill p k).padRead fill p :=
  Function.iterate_succ_apply' _ k c

@[simp] theorem Ctl.padReads_buttonState : (c.padReads fill p k).buttonState = c.buttonState := by
  induction k with
  | zero => rfl
  | succ k ih => rw [Ctl.padReads_succ_last, Ctl.padRead_buttonState, ih]

@[simp] theorem Ctl.padReads_strobeState : (c.padReads fill p k).strobeState = c.strobeState := by
  induction k with
  | zero => rfl
  | succ k ih => rw [Ctl.padReads_succ_last, Ctl.padRead_strobeState, ih]

/-- Reads under a high strobe leave the masks in the registers (40_controller R165). -/
theorem Ctl.padReads_shiftRegister_high (h : c.strobeState = true) :
    (c.padReads fill p (k + 1)).shiftRegister = c.buttonState := by
  rw [Ctl.padReads_succ_last, Ctl.padRead_high fill p (by simpa using h), Ctl.latch, Ctl.padReads_buttonState]

/-- After `k` reads under a low strobe the register holds its bits from `k` on, then fill bits (40_controller R162). -/
theorem Ctl.padReads_getLsbD_low (h : c.strobeState = false) {j : Nat} (hj : j < 8) :
    ((c.padReads fill p k).shiftRegister.get p).getLsbD j =
      if j + k < 8 then (c.shiftRegister.get p).getLsbD (j + k) else fill := by
  induction k generalizing j with
  | zero => simp [hj]
  | succ k ih =>
    rw [Ctl.padReads_succ_last, Ctl.padRead_low fill p (by simpa using h), PerPort.get_set, serialShift_getLsbD _ _ j hj]
    by_cases hj7 : j = 7
    · rw [if_pos hj7, if_neg (by omega)]
    · rw [if_neg hj7, ih (by omega), Nat.add_right_comm, Nat.add_assoc]

/-- The byte of the read after `k` reads under a low strobe. -/
theorem Ctl.padReads_padByte_low (h : c.strobeState = false) :
    (c.padReads fill p k).padByte p = zext8 (if k < 8 then (c.shiftRegister.get p).getLsbD k else fill) := by
  rw [Ctl.padByte_low p (by simpa using h), Ctl.padReads_getLsbD_low h (by omega), Nat.zero_add]

/-- The register after at most eight reads, filled with ones (40_controller R164). -/
theorem Ctl.padReads_get_low (h : c.strobeState = false) (hk : k ≤ 8) :
    (c.padReads true p k).shiftRegister.get p = (c.shiftRegister.get p >>> k) ||| ((0xFF : Byte) <<< (8 - k)) := by
  apply BitVec.eq_of_getLsbD_eq
  intro j hj
  have hones : (0xFF : Byte) = BitVec.allOnes 8 := rfl
  rw [Ctl.padReads_getLsbD_low h hj, BitVec.getLsbD_or, BitVec.getLsbD_ushiftRight, BitVec.getLsbD_shiftLeft, hones,
    BitVec.getLsbD_allOnes, Nat.add_comm k j]
  by_cases hjk : j + k < 8
  · simp [hjk, show j < 8 - k by omega]
  · simp [hjk, hj, show ¬ j < 8 - k by omega, show j - (8 - k) < 8 by omega]

/-- `k` serial reads of a port by the ports' owner: the bytes they return and the device they leave. -/
theorem run_padReads {agent : Agent} {rest : List Event} (k : Nat) {s : State} (hown : s.ownedBy agent)
    (hwf : wellFormed s.cfg (padInstr p) = true)
    (hin : s.inputs = List.replicate k (.port agent (encode s.cfg (padInstr p))) ++ rest) :
    replies k s = some ((List.range k).map fun j => .byte ((s.ctl.padReads s.cfg.ctlFillBit p j).padByte p)) ∧
    ∃ t, Host.Core.run core k s = .next t ∧ t.ctl = s.ctl.padReads s.cfg.ctlFillBit p k := by
  induction k generalizing s with
  | zero => exact ⟨rfl, s, rfl, rfl⟩
  | succ k ih =>
    obtain ⟨u, hstep, hownU, hcfg, hinU, hreply, hctlU⟩ := step_padInstr hown hwf hin
    obtain ⟨hreplies, t, hrun, hctl⟩ := ih hownU (hcfg ▸ hwf) (hcfg ▸ hinU)
    rw [hcfg, hctlU] at hreplies hctl
    refine ⟨?_, t, (run_succ_of_step hstep).trans hrun, hctl⟩
    rw [replies_succ_of_step hstep, hreplies, hreply, List.range_succ_eq_map, List.map_cons, List.map_map]
    rfl

end SerialReads

/-- Settles O53: every read re-latches, so the device never leaves the button masks. -/
theorem strobeHighNeverAdvances : Obligations.StrobeHighNeverAdvances := by
  intro s agent p k rest hown hwf hhigh hin
  obtain ⟨hreplies, t, hrun, hctl⟩ := run_padReads k hown hwf hin
  have hbyte (j : Nat) : (s.ctl.padReads s.cfg.ctlFillBit p j).padByte p = zext8 ((s.ctl.buttonState.get p).getLsbD 0) := by
    rw [Ctl.padByte_high p (by simpa using hhigh), Ctl.padReads_buttonState]
  refine ⟨?replies, t, hrun, fun hk => ?registers⟩
  case replies => simp [hreplies, hbyte, zext8_eq]
  case registers =>
    obtain ⟨n, rfl⟩ := Nat.exists_eq_succ_of_ne_zero hk.ne'
    rw [hctl, Ctl.padReads_shiftRegister_high hhigh]

/-- Settles O52: the falling edge latches the mask, and the reads shift it out. -/
theorem serialReadOutLsbFirst : Obligations.SerialReadOutLsbFirst := by
  intro s agent p value k rest hown hfill hwfStrobe hwfPad hhigh hvalue hin
  obtain ⟨u, hstep, hown, hcfg, hin, hreply, hctlU⟩ := step_strobeWr hown hwfStrobe hin
  obtain ⟨hreplies, t, hrun, hctl⟩ := run_padReads k hown (hcfg ▸ hwfPad) (hcfg ▸ hin)
  rw [hcfg, hfill, hctlU, Ctl.writeStrobe_fall hhigh hvalue] at hreplies hctl
  refine ⟨?replies, t, (run_succ_of_step hstep).trans hrun, fun hk => ?register⟩
  case replies =>
    rw [replies_succ_of_step hstep, hreplies, hreply]
    refine congrArg (fun bytes => some (Reply.ok :: bytes)) (List.map_congr_left fun j _ => ?_)
    rw [Ctl.padReads_padByte_low rfl, zext8_eq]
    by_cases hj : j < 8 <;> simp [hj]
  case register => rw [hctl, Ctl.padReads_get_low rfl hk]

/-- One more byte read moves the others up. -/
theorem reassembleLeft_concat (reads : List Byte) (b : Byte) :
    reassembleLeft (reads ++ [b]) = (reassembleLeft reads <<< 1) ||| b := by
  simp [reassembleLeft]

theorem zext8_getLsbD (b : Bool) {k : Nat} (hk : k < 8) : (zext8 b).getLsbD k = (b && decide (k = 0)) := by
  simpa using zext8_shiftLeft_getLsbD b 0 k hk

/-- A caller that shifts left ends with the bits in reverse: the last one read in bit 0. -/
theorem reassembleLeft_getLsbD (f : Nat → Bool) {n k : Nat} (hk : k < 8) :
    (reassembleLeft ((List.range n).map fun j => zext8 (f j))).getLsbD k = (decide (k < n) && f (n - 1 - k)) := by
  induction n generalizing k with
  | zero => simp [reassembleLeft]
  | succ n ih =>
    rw [List.range_succ, List.map_append, List.map_singleton, reassembleLeft_concat, BitVec.getLsbD_or,
      zext8_getLsbD _ hk, BitVec.getLsbD_shiftLeft]
    cases k with
    | zero => simp
    | succ k =>
      rw [Nat.add_sub_cancel, ih (by omega), show n - 1 - k = n + 1 - 1 - (k + 1) by omega]
      simp [hk]

/-- Settles O54: the eight reads give the register's bits in order, and the caller's fold reverses them. -/
theorem leftReassemblyReversesBits : Obligations.LeftReassemblyReversesBits := by
  intro s agent p rest hown hwf hlow hin
  obtain ⟨hreplies, -⟩ := run_padReads 8 hown hwf hin
  refine ⟨(List.range 8).map fun j => zext8 ((s.ctl.shiftRegister.get p).getLsbD j), ?replies, fun k hk => ?bits⟩
  case replies =>
    rw [hreplies, List.map_map]
    refine congrArg some (List.map_congr_left fun j hj => ?_)
    rw [Ctl.padReads_padByte_low hlow, if_pos (List.mem_range.1 hj)]
    rfl
  case bits => rw [reassembleLeft_getLsbD _ hk, decide_eq_true hk, Bool.true_and]

end Sys2Proof.Machine

namespace Sys2Proof.Machine

/-! ## The PPU register device -/

section PpuDevice

variable (cfg : Config) (p : Ppu) (v : Byte)

/-- A scroll write stores in the half the toggle names, and flips the toggle (41_ppu_registers R192). -/
theorem Ppu.scrollWrite_eq :
    p.scrollWrite v =
      { p with scrollX := if p.w then p.scrollX else v, scrollY := if p.w then v else p.scrollY, w := !p.w } := by
  cases hw : p.w <;> simp [Ppu.scrollWrite, hw]

/-- An address write stores the byte the toggle names, and flips the toggle (41_ppu_registers R193). -/
theorem Ppu.addrWrite_eq :
    p.addrWrite v =
      { p with
        vramAddr := if p.w then p.vramAddr.extractLsb' 8 8 ++ v else v ++ p.vramAddr.extractLsb' 0 8
        w := !p.w } := by
  cases hw : p.w <;> simp [Ppu.addrWrite, hw, setHighByte_eq, setLowByte_eq]

/-- All a status read changes (41_ppu_registers R185). -/
theorem Ppu.statusRead_eq :
    p.statusRead cfg =
      { p with
        vblank := false
        w := false
        statusReads := if p.sprite0Hit then p.statusReads else p.statusReads + 1
        sprite0Hit := p.sprite0Hit || decide (cfg.s0Threshold ≤ p.statusReads + 1) } := by
  cases hs : p.sprite0Hit <;> simp [Ppu.statusRead, Ppu.countStatusRead, hs]

variable {a : Addr} {s : State} (hadm : s.busAdmitted)
include hadm

theorem exec_ppuWr5Scroll_first (hw : s.ppu.w = false) :
    exec (.ppuWr5Scroll a v) s = .next { s with ppu := { s.ppu with scrollX := v, w := true }, reply := .ok } := by
  simp [exec_ppuWr5Scroll, guarded_next ((admission_bus s).2 hadm), Ppu.scrollWrite_eq, hw]

theorem exec_ppuWr5Scroll_second (hw : s.ppu.w = true) :
    exec (.ppuWr5Scroll a v) s = .next { s with ppu := { s.ppu with scrollY := v, w := false }, reply := .ok } := by
  simp [exec_ppuWr5Scroll, guarded_next ((admission_bus s).2 hadm), Ppu.scrollWrite_eq, hw]

theorem exec_ppuWr6Addr_first (hw : s.ppu.w = false) :
    exec (.ppuWr6Addr a v) s = .next
      { s with ppu := { s.ppu with vramAddr := v ++ s.ppu.vramAddr.extractLsb' 0 8, w := true }, reply := .ok } := by
  simp [exec_ppuWr6Addr, guarded_next ((admission_bus s).2 hadm), Ppu.addrWrite_eq, hw]

theorem exec_ppuWr6Addr_second (hw : s.ppu.w = true) :
    exec (.ppuWr6Addr a v) s = .next
      { s with ppu := { s.ppu with vramAddr := s.ppu.vramAddr.extractLsb' 8 8 ++ v, w := false }, reply := .ok } := by
  simp [exec_ppuWr6Addr, guarded_next ((admission_bus s).2 hadm), Ppu.addrWrite_eq, hw]

end PpuDevice

/-- Settles O5: the four writes' effects, admitted. -/
theorem directRegisterWrites : Obligations.DirectRegisterWrites := by
  intro a v s hadm
  have hnext := guarded_next ((admission_bus s).2 hadm)
  refine ⟨?ctrl, ?mask, ?oamAddr, ?status⟩
  case ctrl => exact (exec_ppuWr0Ctrl s a v).trans (hnext _)
  case mask => exact (exec_ppuWr1Mask s a v).trans (hnext _)
  case oamAddr => exact (exec_ppuWr3Oamaddr s a v).trans (hnext _)
  case status => exact (exec_ppuWr2Status s a v).trans (hnext _)

/-- Settles O6: the five reads' effects, admitted; they are one. -/
theorem writeOnlyReadsReturnParameter : Obligations.WriteOnlyReadsReturnParameter := by
  refine ⟨rfl, fun a s hadm => ?_⟩
  have hnext := guarded_next ((admission_bus s).2 hadm)
  refine ⟨?ctrl, ?mask, ?oamAddr, ?scroll, ?addr⟩
  case ctrl => exact (exec_ppuRd0Ctrl s a).trans (hnext _)
  case mask => exact (exec_ppuRd1Mask s a).trans (hnext _)
  case oamAddr => exact (exec_ppuRd3Oamaddr s a).trans (hnext _)
  case scroll => exact (exec_ppuRd5Scroll s a).trans (hnext _)
  case addr => exact (exec_ppuRd6Addr s a).trans (hnext _)

/-- Settles O7: the byte is the view of the flags before the read's side effects, which are one update of the device. -/
theorem statusReadSamplesThenClears : Obligations.StatusReadSamplesThenClears := by
  intro a s hcfg hadm
  refine ⟨statusByte s.cfg s.ppu, ?effect, statusByte_getLsbD (statusBits_ne hcfg) s.ppu⟩
  case effect => rw [exec_ppuRd2Status, guarded_next ((admission_bus s).2 hadm), Ppu.statusRead_eq]

/-- Settles O8: the write puts one byte into canonical OAM, the read leaves the device. -/
theorem oamDataPort : Obligations.OamDataPort := by
  refine ⟨fun a v s hoam hadm => ?write, fun a s hadm => ?read⟩
  case write =>
    refine ⟨s.ppu.oam.write (oamIndex s.cfg s.ppu.oamAddr) v, s.ppu.oamAddr + 1, ?effect, ?next, fun b => ?byte⟩
    case effect => exact (exec_ppuWr4Oamdata s a v).trans (guarded_next ((admission_bus s).2 hadm) _)
    case next => exact BitVec.toNat_add _ _
    case byte => exact Memory.read_write hoam _ b v
  case read => exact (exec_ppuRd4Oamdata s a).trans (guarded_next ((admission_bus s).2 hadm) _)

/-- Settles O9: the toggle decides the half. -/
theorem scrollWritesAlternate : Obligations.ScrollWritesAlternate :=
  fun _ v _ hadm => ⟨exec_ppuWr5Scroll_first v hadm, exec_ppuWr5Scroll_second v hadm⟩

/-- Settles O10: the toggle decides the half; the shift and mask of R99 are an append. -/
theorem addrWritesAlternate : Obligations.AddrWritesAlternate :=
  fun _ v _ hadm => ⟨exec_ppuWr6Addr_first v hadm, exec_ppuWr6Addr_second v hadm⟩

/-- Settles O11: masking is reduction modulo the size, at the access and at the increment. -/
theorem vramDataPort : Obligations.VramDataPort := by
  intro a v s hcfg hvram hadm
  have hnext := guarded_next ((admission_bus s).2 hadm)
  refine ⟨s.ppu.vram.write (vramIndex s.cfg s.ppu.vramAddr).toNat v,
    vramAdvance s.cfg (vramStep s.cfg s.ppu.ctrl) s.ppu.vramAddr, ?write, ?read, fun b => ?byte, ?address⟩
  case write => exact (exec_ppuWr7Data s a v).trans (hnext _)
  case read => rw [exec_ppuRd7Data, hnext, Ppu.vramLoad, vramIndex_toNat hcfg, Ppu.vramInc]
  case byte => rw [← vramIndex_toNat hcfg, Memory.read_write hvram]
  case address => exact vramAdvance_toNat hcfg _ _

/-- Settles O13: the four commands' effects, admitted. -/
theorem vblankCommandsNmiQueryAndTimeout : Obligations.VblankCommandsNmiQueryAndTimeout := by
  intro d s hadm
  have hnext := guarded_next ((admission_hostCommand s).2 hadm)
  refine ⟨?beginVblank, ?endVblank, ?query, ?timeout⟩
  case beginVblank => exact (exec_beginVblank s).trans (hnext _)
  case endVblank => exact (exec_endVblank s).trans (hnext _)
  case query => exact (exec_nmiQuery s).trans (hnext _)
  case timeout => exact (exec_setTimeout s d).trans (hnext _)

/-- Settles O55: the status read clears the toggle, so either write after it is the first of its pair. -/
theorem statusReadRestartsPair : Obligations.StatusReadRestartsPair := by
  intro s a b v hadm
  refine ⟨_, (exec_ppuRd2Status s a).trans (guarded_next ((admission_bus s).2 hadm) _),
    ⟨_, exec_ppuWr5Scroll_first v hadm (Ppu.statusRead_w ..), ?_⟩, ⟨_, exec_ppuWr6Addr_first v hadm (Ppu.statusRead_w ..), ?_⟩⟩
  · exact ⟨rfl, Ppu.statusRead_scrollY ..⟩
  · rw [Ppu.statusRead_vramAddr]
    exact ⟨BitVec.extractLsb'_append_eq_left, BitVec.extractLsb'_append_eq_right⟩

/-! ## What the PPU's operations leave unchanged -/

section PpuFrame

variable {a : Addr} {r : PpuReg} {s t : State}

/-- A register read returns a byte; only the reads of the status and the data register have a side effect
(41_ppu_registers R185, R188, R190, R195). -/
theorem exec_ppuRead_next (h : exec (ppuRead r a) s = .next t) :
    ∃ p byte, t = { s with ppu := p, reply := .byte byte } ∧
      (p = s.ppu ∨ r = .status ∧ p = s.ppu.statusRead s.cfg ∨ r = .data ∧ p = s.ppu.vramInc s.cfg) := by
  cases r with
  | status => exact ⟨_, _, (guarded_eq_next_iff.1 h).2.symm, .inr (.inl ⟨rfl, rfl⟩)⟩
  | data => exact ⟨_, _, (guarded_eq_next_iff.1 h).2.symm, .inr (.inr ⟨rfl, rfl⟩)⟩
  | ctrl | mask | oamAddr | oamData | scroll | addr =>
    exact ⟨_, _, (guarded_eq_next_iff.1 h).2.symm, .inl rfl⟩

end PpuFrame

/-- Settles O31: a read has one of three effects on the device, and none on the rest. -/
theorem frameOfPpuReads : Obligations.FrameOfPpuReads := by
  intro a i s t hi h
  obtain ⟨r, rfl⟩ : ∃ r, i = ppuRead r a := by
    obtain hi | hi | hi | hi | hi | hi | hi | hi := hi
    exacts [⟨.ctrl, hi⟩, ⟨.mask, hi⟩, ⟨.status, hi⟩, ⟨.oamAddr, hi⟩, ⟨.oamData, hi⟩, ⟨.scroll, hi⟩, ⟨.addr, hi⟩, ⟨.data, hi⟩]
  obtain ⟨p, byte, rfl, hp⟩ := exec_ppuRead_next h
  refine ⟨rfl, rfl, rfl, fun _ => rfl, ⟨rfl, rfl, rfl, rfl⟩, ?device⟩
  obtain rfl | ⟨rfl, rfl⟩ | ⟨rfl, rfl⟩ := hp
  · simp [Ppu.sameMemories]
  · simp [Ppu.sameMemories, ppuRead]
  · simp [Ppu.sameMemories, ppuRead]

/-- Settles O29: each write stores in the register it names; scroll and address choose the half by the toggle, and flip it. -/
theorem frameOfRegisterWrites : Obligations.FrameOfRegisterWrites := by
  intro a v i s t hi h
  have hsurroundings := exec_sameSurroundings h
  obtain rfl | rfl | rfl | rfl | rfl | rfl := hi
  all_goals
    obtain ⟨-, rfl⟩ := guarded_eq_next_iff.1 h
    refine ⟨rfl, rfl, rfl, fun _ => rfl, hsurroundings, ?_⟩
  · simp [Ppu.sameMemories]
  · simp [Ppu.sameMemories]
  · simp [Ppu.sameMemories]
  · simp [Ppu.sameMemories]
  · simp +contextual [Ppu.sameMemories, Ppu.scrollWrite_eq]
  · simp [Ppu.sameMemories, Ppu.addrWrite_eq]

/-- Settles O30: a store keeps every byte but the one it names, and the DMA writes OAM alone. -/
theorem frameOfPpuStores : Obligations.FrameOfPpuStores := by
  intro a v i s t hi h
  have hsurroundings := exec_sameSurroundings h
  obtain rfl | rfl | rfl := hi
  all_goals
    obtain ⟨-, rfl⟩ := guarded_eq_next_iff.1 h
    refine ⟨rfl, rfl, rfl, fun _ => rfl, hsurroundings, ?_⟩
  · simpa using fun b => Memory.read_write_other s.ppu.oam v
  · simpa using fun b => Memory.read_write_other s.ppu.vram v
  · simp

/-- Settles O35: BEGIN_VBLANK and END_VBLANK write the PPU's flags alone, SET_TIMEOUT the timeout, the queries nothing. -/
theorem frameOfVblankCommandsAndQueries : Obligations.FrameOfVblankCommandsAndQueries := by
  intro d i s t hi h
  have hsurroundings := exec_sameSurroundings h
  obtain rfl | rfl | rfl | rfl | rfl := hi
  all_goals
    obtain ⟨-, rfl⟩ := guarded_eq_next_iff.1 h
    refine ⟨rfl, rfl, fun _ => rfl, hsurroundings, ⟨fun _ => rfl, fun _ => rfl⟩, ?_⟩
    simp

/-! ## Consecutive data writes -/

section DataWrites

variable {s : State} {agent : Agent} {a : Addr} {rest : List Event}

/-- A data write by the ports' owner (41_ppu_registers R194, R198). -/
theorem step_ppuWr7Data {v : Byte} (hown : s.ownedBy agent) (hwf : wellFormed s.cfg (.ppuWr7Data a v) = true)
    (hin : s.inputs = .port agent (encode s.cfg (.ppuWr7Data a v)) :: rest) :
    ∃ t, step s = .next t ∧ t.ownedBy agent ∧ t.cfg = s.cfg ∧ t.inputs = rest ∧ t.ppu.ctrl = s.ppu.ctrl ∧
      t.ppu.vramAddr = vramAdvance s.cfg (vramStep s.cfg s.ppu.ctrl) s.ppu.vramAddr :=
  ⟨_, step_bus_of_owner (exec_ppuWr7Data · a v) hown hwf hin, hown, rfl, rfl, rfl, rfl⟩

/-- Data writes by the ports' owner, one increment each: the increment stays, since none writes `ctrl`. -/
theorem run_dataWrites (data : List Byte) {s : State} (hown : s.ownedBy agent) (hcfg : s.cfg.wf = true)
    (hwf : wellFormed s.cfg (.ppuWr7Data a 0) = true)
    (hin : s.inputs = data.map (fun v => .port agent (encode s.cfg (.ppuWr7Data a v))) ++ rest) :
    ∃ t, Host.Core.run core data.length s = .next t ∧ t.inputs = rest ∧
      t.ppu.vramAddr.toNat % s.cfg.vramSize =
        (s.ppu.vramAddr.toNat + data.length * vramStep s.cfg s.ppu.ctrl) % s.cfg.vramSize := by
  induction data generalizing s with
  | nil => exact ⟨s, rfl, hin, by simp⟩
  | cons v data ih =>
    obtain ⟨u, hstep, hownU, hcfgU, hinU, hctrl, haddr⟩ := step_ppuWr7Data (v := v) hown hwf hin
    obtain ⟨t, hrun, hinT, haddrT⟩ := ih hownU (hcfgU ▸ hcfg) (hcfgU ▸ hwf) (hcfgU ▸ hinU)
    refine ⟨t, (run_succ_of_step hstep).trans hrun, hinT, ?_⟩
    rw [hcfgU, hctrl, haddr, vramAdvance_toNat hcfg] at haddrT
    rw [haddrT, List.length_cons, Nat.mod_add_mod, Nat.add_assoc, Nat.mod_add_mod, Nat.succ_mul, Nat.add_comm (_ * _)]

end DataWrites

/-- Settles O56: the increments add up modulo the size. -/
theorem dataWritesAdvanceAddress : Obligations.DataWritesAdvanceAddress :=
  fun data _ _ _ _ hown hcfg hwf hin => run_dataWrites data hown hcfg hwf hin

/-! ## The status reads of a frame -/

/-- The byte of status read `j` of a frame, counted from 0 (41_ppu_registers R204). -/
def timelineByte (cfg : Config) (j : Nat) : Byte :=
  if j = 0 then (1 : Byte) <<< cfg.statusVblankBit.val
  else if cfg.s0Threshold ≤ j then (1 : Byte) <<< cfg.statusS0hitBit.val else 0

/-- The device before status read `j` of a frame: vblank stands until read 0 clears it, and the counter counts the reads until it sets
the sprite-0 flag. -/
structure Ppu.BeforeRead (cfg : Config) (j : Nat) (p : Ppu) : Prop where
  vblank : p.vblank = decide (j = 0)
  sprite0Hit : p.sprite0Hit = decide (cfg.s0Threshold ≤ j)
  counter : j < cfg.s0Threshold → p.statusReads = j

section StatusReads

variable {cfg : Config} {p : Ppu} {j : Nat}

/-- A status read leaves the device before the next one. -/
theorem Ppu.BeforeRead.statusRead (h : p.BeforeRead cfg j) : (p.statusRead cfg).BeforeRead cfg (j + 1) where
  vblank := by simp
  sprite0Hit := by
    rw [Ppu.statusRead_sprite0Hit, h.sprite0Hit]
    by_cases hj : cfg.s0Threshold ≤ j
    · simp [hj, Nat.le_succ_of_le hj]
    · simp [hj, h.counter (by omega)]
  counter hj := by
    have hhit : p.sprite0Hit = false := by rw [h.sprite0Hit, decide_eq_false (by omega)]
    rw [Ppu.statusRead_statusReads, hhit, h.counter (by omega)]
    rfl

theorem Ppu.BeforeRead.statusByte (hcfg : cfg.wf = true) (h : p.BeforeRead cfg j) : statusByte cfg p = timelineByte cfg j := by
  have hpos := s0Threshold_pos hcfg
  rw [Machine.statusByte, timelineByte, h.vblank, h.sprite0Hit, zext8_eq, zext8_eq]
  by_cases hj : j = 0
  · simp [hj, show cfg.s0Threshold ≠ 0 by omega]
  · by_cases hthr : cfg.s0Threshold ≤ j <;> simp [hj, hthr]

variable {s : State} {agent : Agent} {a : Addr} {rest : List Event}

/-- A status read by the ports' owner (41_ppu_registers R185). -/
theorem step_ppuRd2Status (hown : s.ownedBy agent) (hwf : wellFormed s.cfg (.ppuRd2Status a) = true)
    (hin : s.inputs = .port agent (encode s.cfg (.ppuRd2Status a)) :: rest) :
    ∃ t, step s = .next t ∧ t.ownedBy agent ∧ t.cfg = s.cfg ∧ t.inputs = rest ∧
      t.reply = .byte (statusByte s.cfg s.ppu) ∧ t.ppu = s.ppu.statusRead s.cfg :=
  ⟨_, step_bus_of_owner (exec_ppuRd2Status · a) hown hwf hin, hown, rfl, rfl, rfl, rfl⟩

/-- The replies of `k` status reads by the ports' owner, from read `j` of the frame on. -/
theorem replies_statusReads (k : Nat) {j : Nat} {s : State} (hown : s.ownedBy agent) (hcfg : s.cfg.wf = true)
    (hwf : wellFormed s.cfg (.ppuRd2Status a) = true) (hp : s.ppu.BeforeRead s.cfg j)
    (hin : s.inputs = List.replicate k (.port agent (encode s.cfg (.ppuRd2Status a))) ++ rest) :
    replies k s = some ((List.range' j k).map fun n => .byte (timelineByte s.cfg n)) := by
  induction k generalizing j s with
  | zero => rfl
  | succ k ih =>
    obtain ⟨u, hstep, hownU, hcfgU, hinU, hreply, hppu⟩ := step_ppuRd2Status hown hwf hin
    have hnext := ih hownU (hcfgU ▸ hcfg) (hcfgU ▸ hwf) (hcfgU ▸ hppu ▸ hp.statusRead) (hcfgU ▸ hinU)
    rw [replies_succ_of_step hstep, hnext, hreply, hp.statusByte hcfg, hcfgU, List.range'_succ, List.map_cons]
    rfl

end StatusReads

/-- Settles O57: the vertical blank begins before read 0, and each read leaves the device before the next. -/
theorem statusTimeline : Obligations.StatusTimeline := by
  intro s agent a k rest hown hcfg hwf hvblank hhit hcount hin
  have hstart : s.ppu.BeforeRead s.cfg 0 :=
    ⟨by simp [hvblank], by simp [hhit, Nat.one_le_iff_ne_zero.1 (s0Threshold_pos hcfg)], fun _ => hcount⟩
  rw [replies_statusReads k hown hcfg hwf hstart hin, List.range_eq_range']
  rfl

end Sys2Proof.Machine

namespace Sys2Proof.Machine

/-! ## The movie's frames -/

section MovieFrames

variable {movie : List MovieFrameInput} {n : Nat}

theorem getFrame_of_lt (h : n < movie.length) : getFrame movie n = movie[n] := by
  simp [getFrame, h]

theorem getFrame_of_length_le (h : movie.length ≤ n) : getFrame movie n = neutralInput := by
  simp [getFrame, h]

/-- A movie frame on the ports is RUNFRAME with its two masks, for the HOST (42_movie_input R221). -/
theorem step_movieFrame {s : State} {k : Nat} {rest : List Event} (hin : s.inputs = .movieFrame k :: rest) :
    step s = exec (.runframe (getFrame s.movie k).port1 (getFrame s.movie k).port2) { s with inputs := rest, issuer := .host } :=
  step_event hin

end MovieFrames

/-- Settles O2: the lookup inside the movie and past its end, and the step of a movie frame. -/
theorem movieFrameDrivesRunframe : Obligations.MovieFrameDrivesRunframe :=
  ⟨fun _ _ => getFrame_of_lt, fun _ _ => getFrame_of_length_le, fun _ _ _ => step_movieFrame⟩

/-! ## The button string -/

section ButtonString

variable {l cs : List Char} {c : Char} {i k : Nat} {mask : Byte}

theorem buttonMask_of_length (h : l.length = 8) : buttonMask l = some (pressedFrom 0 l) := if_pos h

theorem buttonMask_of_length_ne (h : l.length ≠ 8) : buttonMask l = none := if_neg h

/-- The first character writes bit `7 - i` alone (42_movie_input R222). -/
theorem pressedFrom_cons_getLsbD (hi : i < 8) (hk : k < 8) :
    (pressedFrom i (c :: cs)).getLsbD (7 - k) = (decide (k = i) && c != '.' || (pressedFrom (i + 1) cs).getLsbD (7 - k)) := by
  have hbit : ((1 : Byte) <<< (7 - i)).getLsbD (7 - k) = decide (k = i) := by
    refine (BitVec.getLsbD_twoPow ..).trans ?_
    rw [decide_eq_true (by omega), Bool.true_and, decide_eq_decide]
    omega
  rw [pressedFrom, BitVec.getLsbD_or]
  by_cases hc : c = '.'
  · simp [hc]
  · rw [if_neg hc, hbit, bne_iff_ne.2 hc, Bool.and_true]

/-- The characters from `i` on write no bit of an earlier character. -/
theorem pressedFrom_getLsbD_of_lt (hlen : i + l.length ≤ 8) (hk : k < i) : (pressedFrom i l).getLsbD (7 - k) = false := by
  induction l generalizing i with
  | nil => exact BitVec.getLsbD_zero
  | cons c cs ih =>
    rw [List.length_cons] at hlen
    rw [pressedFrom_cons_getLsbD (by omega) (by omega), ih (by omega) (by omega)]
    simp [hk.ne]

/-- Each character decides its own bit: none before it writes that bit, nor does any after it (42_movie_input R222). -/
theorem pressedFrom_getLsbD (hlen : i + l.length ≤ 8) (hc : l[k]? = some c) :
    (pressedFrom i l).getLsbD (7 - (i + k)) = (c != '.') := by
  induction l generalizing i k with
  | nil => simp at hc
  | cons d ds ih =>
    obtain ⟨hk, -⟩ := List.getElem?_eq_some_iff.1 hc
    rw [List.length_cons] at hlen hk
    rw [pressedFrom_cons_getLsbD (by omega) (by omega)]
    cases k with
    | zero =>
      obtain rfl : d = c := by simpa using hc
      simp [pressedFrom_getLsbD_of_lt (i := i + 1) (l := ds) (by omega) (Nat.lt_succ_self i)]
    | succ k =>
      have htail := ih (i := i + 1) (by omega) hc
      rw [Nat.add_right_comm] at htail
      rw [← Nat.add_assoc, htail, decide_eq_false (by omega), Bool.false_and, Bool.false_or]

@[simp] theorem formatFrom_length : (formatFrom mask i cs).length = cs.length := by
  induction cs generalizing i with
  | nil => rfl
  | cons c cs ih => simp [formatFrom, ih]

/-- The printed character at `k` is the button's letter or the placeholder (42_movie_input R227). -/
theorem formatFrom_getElem? (hc : cs[k]? = some c) :
    (formatFrom mask i cs)[k]? = some (if mask.getLsbD (7 - (i + k)) then c else '.') := by
  induction cs generalizing i k with
  | nil => simp at hc
  | cons d ds ih =>
    cases k with
    | zero => simp_all [formatFrom]
    | succ k => simpa [formatFrom, Nat.add_right_comm, ← Nat.add_assoc] using ih (i := i + 1) hc

theorem mem_formatFrom (h : c ∈ formatFrom mask i cs) : c ∈ cs ∨ c = '.' := by
  induction cs generalizing i with
  | nil => simp [formatFrom] at h
  | cons d ds ih =>
    obtain rfl | h := List.mem_cons.1 h
    · split <;> simp
    · exact (ih h).imp_left (List.mem_cons_of_mem d)

end ButtonString

/-- Settles O59: each character decides its own bit, and the length decides whether there is a mask. -/
theorem buttonStringBits : Obligations.ButtonStringBits := by
  refine fun l => ⟨fun hlen => ⟨pressedFrom 0 l, buttonMask_of_length hlen, fun i c hc => ?_⟩, buttonMask_of_length_ne⟩
  simpa using pressedFrom_getLsbD (i := 0) (by omega) hc

/-! ## The bare dialect's text -/

section BareDialect

variable {mask : Byte} {l text : List Char} {sep : Char}

/-- The buttons' letters as the printer takes them, Right first (42_movie_input R222, R227). -/
def buttonLetters : List Char := ['R', 'L', 'D', 'U', 'T', 'S', 'B', 'A']

theorem formatMask_eq (mask : Byte) : formatMask mask = formatFrom mask 0 buttonLetters := rfl

@[simp] theorem formatMask_length : (formatMask mask).length = 8 := formatFrom_length

/-- No letter of a button is the placeholder. -/
theorem exists_buttonLetter {k : Nat} (hk : k < 8) : ∃ c, buttonLetters[k]? = some c ∧ c ≠ '.' :=
  ⟨buttonLetters[k], List.getElem?_eq_getElem hk, by decide +revert⟩

/-- Reading a printed button string gives its mask back, bit by bit. -/
theorem pressedFrom_formatMask : pressedFrom 0 (formatMask mask) = mask := by
  refine BitVec.eq_of_getLsbD_eq fun j hj => ?_
  obtain ⟨c, hc, hdot⟩ := exists_buttonLetter (k := 7 - j) (by omega)
  have hread := pressedFrom_getLsbD (i := 0) (l := formatMask mask) (by simp) (formatFrom_getElem? hc)
  rw [Nat.zero_add, show 7 - (7 - j) = j by omega] at hread
  rw [hread]
  cases mask.getLsbD j <;> simp [hdot]

theorem mem_formatMask {c : Char} (h : c ∈ formatMask mask) : c ∈ '.' :: buttonLetters :=
  List.mem_cons.2 (mem_formatFrom (formatMask_eq mask ▸ h)).symm

theorem notMem_formatMask {c : Char} (h : c ∉ '.' :: buttonLetters) : c ∉ formatMask mask := mt mem_formatMask h

/-- The printed line is not blank: none of its characters is. -/
theorem formatMask_all_isBlank : (formatMask mask).all isBlank = false := by
  have hprinted : ∀ c ∈ '.' :: buttonLetters, ¬ isBlank c = true := by simp [buttonLetters, isBlank]
  obtain ⟨c, hc⟩ := List.exists_mem_of_length_pos (l := formatMask mask) (by simp)
  exact List.all_eq_false.2 ⟨c, hc, hprinted c (mem_formatMask hc)⟩

theorem mem_of_mem_trimBlanks {c : Char} (h : c ∈ trimBlanks l) : c ∈ l := by
  rw [trimBlanks, List.mem_reverse] at h
  exact (List.dropWhile_sublist _).mem (List.mem_reverse.1 ((List.dropWhile_sublist _).mem h))

/-- A line without a pipe is not bracketed by pipes. -/
theorem pipeFields_of_notMem (h : '|' ∉ l) : pipeFields l = none :=
  if_neg fun ⟨hhead, _⟩ => h (mem_of_mem_trimBlanks (List.mem_of_mem_head? hhead))

/-- A bare button string is read for port 1 (42_movie_input R223, R224 (c)). -/
theorem parseLine_of_bare (hlen : l.length = 8) (hblank : l.all isBlank = false) (hpipe : '|' ∉ l) :
    parseLine l = some ⟨pressedFrom 0 l, 0x00⟩ := by
  simp [parseLine, hblank, pipeFields_of_notMem hpipe, buttonMask_of_length hlen]

theorem parseLine_formatMask : parseLine (formatMask mask) = some ⟨mask, 0x00⟩ := by
  rw [parseLine_of_bare formatMask_length formatMask_all_isBlank (notMem_formatMask (by decide)), pressedFrom_formatMask]

/-- The first substring ends at the first separator. -/
theorem splitAt_append_cons (h : sep ∉ l) : splitAt sep (l ++ sep :: text) = l :: splitAt sep text := by
  induction l with
  | nil => simp [splitAt]
  | cons c cs ih =>
    obtain ⟨hc, hcs⟩ := List.ne_and_not_mem_of_not_mem_cons h
    simp [splitAt, hc.symm, ih hcs]

/-- Lines are parsed one by one (42_movie_input R223). -/
theorem parseMovie_line_append (h : '\n' ∉ l) : parseMovie (l ++ '\n' :: text) = (parseLine l).toList ++ parseMovie text := by
  rw [parseMovie, splitAt_append_cons h, List.filterMap_cons]
  cases parseLine l <;> rfl

end BareDialect

/-- Settles O60, by induction on the movie: each frame is one line, which is parsed to the frame. -/
theorem movieRoundTrip : Obligations.MovieRoundTrip := by
  intro movie hport2
  induction movie with
  | nil => rfl
  | cons f fs ih =>
    obtain ⟨hf, hfs⟩ := List.forall_mem_cons.1 hport2
    calc parseMovie (formatMovie (f :: fs))
      _ = (parseLine (formatMask f.port1)).toList ++ parseMovie (formatMovie fs) :=
        parseMovie_line_append (notMem_formatMask (by decide))
      _ = [⟨f.port1, 0x00⟩] ++ fs := by rw [parseLine_formatMask, ih hfs, Option.toList_some]
      _ = f :: fs := by rw [← hf, List.singleton_append]

end Sys2Proof.Machine

namespace Sys2Proof.Machine

/-! ## The dispatcher's OAM DMA and the pass-through to flat memory -/

section OamDma

variable {cfg : Config} {p : Ppu}

/-- Byte `i` of the source stands in OAM `i` beyond `oamAddr`, if the DMA does not come around to it again (41_ppu_registers R189). -/
theorem Ppu.oamDma_read (hcfg : cfg.wf = true) (hoam : p.oam.wf cfg.oamSize = true) {src : List Byte} {i : Nat}
    (hi : i < src.length) (hlast : src.length ≤ i + cfg.oamSize) :
    (p.oamDma cfg src).oam.read ((p.oamAddr.toNat + i) % cfg.oamSize) = src[i] :=
  Memory.copyBytes_read hcfg hoam p.oamAddr src i hi hlast

/-- The page's bytes in OAM: the last `oamSize` of its 256 stay (43_io_dispatcher R248). -/
theorem Ppu.oamDma_read_dmaBytes (hcfg : cfg.wf = true) (hoam : p.oam.wf cfg.oamSize = true) (m : Memory) (page : Byte)
    {i : Nat} (hi : i < 256) (hlast : 256 ≤ i + cfg.oamSize) :
    (p.oamDma cfg (dmaBytes m page)).oam.read ((p.oamAddr.toNat + i) % cfg.oamSize) = m.read (page.toNat * 256 + i) := by
  rw [← dmaBytes_length m page] at hlast
  rw [Ppu.oamDma_read hcfg hoam (by rwa [dmaBytes_length]) hlast, dmaBytes_get m page i hi]

end OamDma

/-- Settles O12: the DMA's effect on the device is its OAM alone, and a byte of the page stays unless a later one takes its place. -/
theorem oamDmaCopiesPage : Obligations.OamDmaCopiesPage := by
  intro page s hcfg hoam hadm
  refine ⟨(s.ppu.oamDma s.cfg (dmaBytes s.mem page)).oam, ?effect, fun i => ?bytes⟩
  case effect => rw [exec_oamdmaWr, guarded_next ((admission_bus s).2 hadm), Ppu.oamDma]
  case bytes => exact Ppu.oamDma_read_dmaBytes hcfg hoam s.mem page

/-- Settles O33: the read writes the port's reply alone, and the write also one byte of flat memory. -/
theorem frameOfPassThrough : Obligations.FrameOfPassThrough := by
  intro a v i s t hi h
  have hsurroundings := exec_sameSurroundings h
  obtain rfl | rfl := hi
  case inl =>
    obtain ⟨-, rfl⟩ := guarded_eq_next_iff.1 (exec_memRd s a ▸ h)
    exact ⟨rfl, rfl, rfl, rfl, hsurroundings, fun _ _ => rfl, fun _ _ => rfl⟩
  case inr =>
    obtain ⟨-, rfl⟩ := guarded_eq_next_iff.1 (exec_memWr s a v ▸ h)
    exact ⟨rfl, rfl, rfl, rfl, hsurroundings, fun _ => Memory.read_write_other s.mem v, nofun⟩

/-- Settles O17: an admitted read answers the byte at its address, and an admitted write puts one byte into canonical flat memory. -/
theorem flatMemoryPassThrough : Obligations.FlatMemoryPassThrough := by
  intro a v s hmem hadm
  have hnext := guarded_next ((admission_bus s).2 hadm)
  refine ⟨?read, s.mem.write a.toNat v, ?write, fun b => ?byte⟩
  case read => exact (exec_memRd s a).trans (hnext _)
  case write => exact (exec_memWr s a v).trans (hnext _)
  case byte => exact Memory.read_write hmem _ b v

end Sys2Proof.Machine

namespace Sys2Proof.Machine

/-! ## The scheduler's tick -/

section Tick

variable {cfg : Config} {d : Sched} {task mode : Byte} {due : Bool}

/-- A scheduler is its six cells (10_state R40 to R44). -/
theorem Sched.eq_mk (d : Sched) :
    d = ⟨d.pendingSkips, d.prevTask, d.prevMode, d.isFirstFrame, d.nmiPending, d.skippedCount⟩ := rfl

/-- The two steps of a tick field by field (44_nmi_scheduler R261), over the count `n` the transition step leaves. -/
theorem Sched.tick_eq {n : Nat} (hn : (d.transitionStep cfg task mode).pendingSkips = n) :
    (d.transitionStep cfg task mode).dueStep due =
      { pendingSkips := if due = true then n - 1 else n
        prevTask := task
        prevMode := mode
        isFirstFrame := false
        nmiPending := d.nmiPending || (due && decide (n = 0))
        skippedCount := if due = true ∧ 0 < n then d.skippedCount + 1 else d.skippedCount } := by
  rw [Sched.eq_mk (Sched.dueStep due _), Sched.dueStep_pendingSkips, Sched.dueStep_nmiPending, Sched.dueStep_skippedCount,
    hn]
  simp

/-- The count stays unless a later call meets the 0 to 1 step in mode 0 or 1 (44_nmi_scheduler R262, R263). -/
theorem Sched.transitionStep_pendingSkips_of_not_fires
    (h : ¬ (d.isFirstFrame = false ∧ d.prevTask = 0 ∧ task = 1 ∧ (mode = 0 ∨ mode = 1))) :
    (d.transitionStep cfg task mode).pendingSkips = d.pendingSkips := by
  rw [Sched.transitionStep_pendingSkips]
  split
  case isTrue hstep =>
    obtain ⟨hfirst, hprev, htask⟩ := hstep
    obtain ⟨h0, h1⟩ := not_or.1 fun hmode => h ⟨hfirst, hprev, htask, hmode⟩
    exact skipsAtMode_other cfg h0 h1 _
  case isFalse => rfl

/-- Whatever was due, a tick keeps the mark (44_nmi_scheduler R264). -/
theorem Sched.tick_keeps_nmiPending (h : d.nmiPending = true) :
    ((d.transitionStep cfg task mode).dueStep due).nmiPending = true := by
  rw [Sched.dueStep_nmiPending, Sched.transitionStep_nmiPending, h, Bool.true_or]

end Tick

/-- Settles O18: an admitted tick is the closed form of its two steps. -/
theorem schedTickTransitionThenDue : Obligations.SchedTickTransitionThenDue := by
  intro s hadm task mode count due
  rw [exec_schedTick, guarded_next ((admission_hostCommand s).2 hadm), schedTick,
    Sched.tick_eq (Sched.transitionStep_pendingSkips s.cfg s.sched _ _)]
  rfl

/-- Settles O20: the due step moves one skip at most, and the transition step alone can set the count. -/
theorem tickKeepsSkipSum : Obligations.TickKeepsSkipSum := by
  intro s t h hfires
  obtain ⟨-, rfl⟩ := guarded_eq_next_iff.1 (exec_schedTick s ▸ h)
  have hcount : (s.sched.transitionStep s.cfg (memRead s s.cfg.aTask) (memRead s s.cfg.aMode)).pendingSkips =
      s.sched.pendingSkips := Sched.transitionStep_pendingSkips_of_not_fires hfires
  rw [answer_sched, schedTick_sched, Sched.dueStep_sum, Sched.transitionStep_skippedCount, hcount]

/-! ## What the scheduler's operations leave unchanged -/

/-- The scheduler's operations write the scheduler and the reply alone (44_nmi_scheduler R260 to R267). -/
theorem exec_scheduler_next {i : Instr} {s t : State} (n : BitVec 24)
    (hi : i = .schedInit ∨ i = .schedTick ∨ i = .skip n ∨ i = .disable ∨ i = .schedStat) (h : exec i s = .next t) :
    ∃ d r, t = { s with sched := d, reply := r } := by
  obtain rfl | rfl | rfl | rfl | rfl := hi
  all_goals
    obtain ⟨-, rfl⟩ := guarded_eq_next_iff.1 h
    exact ⟨_, _, rfl⟩

/-- Settles O34: each operation writes the scheduler alone, and of its cells only the ones it names. -/
theorem frameOfSchedulerOperations : Obligations.FrameOfSchedulerOperations := by
  intro n i s t hi h
  obtain ⟨d, r, ht⟩ := exec_scheduler_next n hi h
  refine ⟨by rw [ht], by rw [ht], by rw [ht], fun _ => by rw [ht], exec_sameSurroundings h, ?stat, ?skip, ?skipDisable, ?tick⟩
  case stat =>
    rintro rfl
    obtain ⟨-, rfl⟩ := guarded_eq_next_iff.1 (exec_schedStat s ▸ h)
    rfl
  case skip =>
    rintro rfl
    obtain ⟨-, rfl⟩ := guarded_eq_next_iff.1 (exec_skip s n ▸ h)
    exact ⟨rfl, rfl⟩
  case skipDisable =>
    rintro (rfl | rfl)
    · obtain ⟨-, rfl⟩ := guarded_eq_next_iff.1 (exec_skip s n ▸ h)
      exact ⟨rfl, rfl, rfl⟩
    · obtain ⟨-, rfl⟩ := guarded_eq_next_iff.1 (exec_disable s ▸ h)
      exact ⟨rfl, rfl, rfl⟩
  case tick =>
    rintro rfl hpending
    obtain ⟨-, rfl⟩ := guarded_eq_next_iff.1 (exec_schedTick s ▸ h)
    exact Sched.tick_keeps_nmiPending hpending

/-- Settles O19: the two commands of the HANDLER, then the two queries of the HOST, each where the table admits it. -/
theorem skipDisableAndQueries : Obligations.SkipDisableAndQueries := by
  refine ⟨fun n s hadm => ?commands, fun s hadm => ?queries⟩
  case commands =>
    have hnext := guarded_next ((admission_handlerCommand s).2 hadm)
    exact ⟨(exec_skip s n).trans (hnext _), (exec_disable s).trans (hnext _)⟩
  case queries =>
    have hnext := guarded_next ((admission_hostCommand s).2 hadm)
    exact ⟨(exec_schedStat s).trans (hnext _), (exec_deliveredQuery s).trans (hnext _)⟩

/-- Settles O26: each command's effect is its component's initial value. -/
theorem schedulerAndSupervisorInit : Obligations.SchedulerAndSupervisorInit := by
  refine fun s => ⟨fun hadm => ?sched, fun hadm => ?sup⟩
  case sched => exact (exec_schedInit s).trans (guarded_next ((admission_hostCommand s).2 hadm) _)
  case sup => exact (exec_supInit s).trans (guarded_next ((admission_restart s).2 hadm) _)

/-! ## Consecutive frames with skips pending -/

/-- In `Idle`, with the interrupt enabled and no mark left over, `n` frames are to be suppressed: the next tick does not set
the count. -/
structure State.Suppresses (n : Nat) (s : State) : Prop where
  idle : s.sup.phase = .idle
  enabled : nmiEnabled s.cfg s.ppu = true
  pending : s.sched.pendingSkips = n
  unmarked : s.sched.nmiPending = false
  noTransition : ¬ (s.sched.isFirstFrame = false ∧ s.sched.prevTask = 0 ∧ memRead s s.cfg.aTask = 1)

section Suppression

variable {n : Nat} {s : State} {p1 p2 : Byte} {rest : List Event}

/-- The suppression asks nothing of the fields the model adds for the ports. -/
theorem State.Suppresses.ports (h : s.Suppresses n) (inputs : List Event) (issuer : Agent) :
    State.Suppresses n { s with inputs := inputs, issuer := issuer } := by
  obtain ⟨hidle, henabled, hpending, hunmarked, hquiet⟩ := h
  exact ⟨hidle, henabled, hpending, hunmarked, hquiet⟩

theorem runFrame_of_pending (h : (frameStart p1 p2 s).sched.nmiPending = true) :
    runFrame p1 p2 s = deliverNmi (frameStart p1 p2 s) := if_pos h

theorem runFrame_of_not_pending (h : (frameStart p1 p2 s).sched.nmiPending = false) :
    runFrame p1 p2 s = finishFrame (frameStart p1 p2 s) := if_neg (Bool.not_eq_true _ ▸ h)

/-- The HOST's RUNFRAME in `Idle` takes its step (45_frame_supervisor R281). -/
theorem step_runframe (hidle : s.sup.phase = .idle) (hin : s.inputs = .port .host (encode s.cfg (.runframe p1 p2)) :: rest) :
    step s = .next (runFrame p1 p2 { s with inputs := rest, issuer := .host }) := by
  have hadm : State.commandAdmitted { s with inputs := rest, issuer := .host } := ⟨hidle, rfl⟩
  rw [step_port_of_decode hin (decode_encode_of_command rfl), exec_runframe, guarded_next ((admission_hostCommand _).2 hadm)]

/-- The tick of a frame whose interrupt is due, with no transition (44_nmi_scheduler R264): one skip is taken and counted, or
with none left the mark is set. -/
theorem State.Suppresses.frameStart_sched (h : s.Suppresses n) (p1 p2 : Byte) :
    (frameStart p1 p2 s).sched =
      { pendingSkips := n - 1
        prevTask := memRead s s.cfg.aTask
        prevMode := memRead s s.cfg.aMode
        isFirstFrame := false
        nmiPending := decide (n = 0)
        skippedCount := if 0 < n then s.sched.skippedCount + 1 else s.sched.skippedCount } := by
  have hcount : (s.sched.transitionStep s.cfg (memRead s s.cfg.aTask) (memRead s s.cfg.aMode)).pendingSkips = n := by
    rw [Sched.transitionStep_pendingSkips, if_neg h.noTransition, h.pending]
  rw [frameStart_eq, Sched.tick_eq hcount, h.enabled, h.unmarked]
  simp

/-- A frame with a skip left is suppressed and counted, and leaves one skip less (44_nmi_scheduler R264). -/
theorem step_runframe_suppressed (h : s.Suppresses (n + 1))
    (hin : s.inputs = .port .host (encode s.cfg (.runframe p1 p2)) :: rest) :
    ∃ t, step s = .next t ∧ t.Suppresses n ∧ t.cfg = s.cfg ∧ t.inputs = rest ∧ t.reply = .done false ∧
      t.sched.skippedCount = s.sched.skippedCount + 1 ∧ t.sup.frameCounter = s.sup.frameCounter + 1 := by
  have hsched := (h.ports rest .host).frameStart_sched p1 p2
  refine ⟨_, step_runframe h.idle hin, ?_⟩
  rw [runFrame_of_not_pending (by simp [hsched])]
  refine ⟨⟨h.idle, h.enabled, by simp [hsched], by simp [hsched], ?noTransition⟩, rfl, rfl, rfl, by simp [hsched], rfl⟩
  case noTransition =>
    rintro ⟨-, hprev, htask⟩
    have hzero : memRead s s.cfg.aTask = 0 := (congrArg Sched.prevTask hsched).symm.trans hprev
    exact absurd (hzero.symm.trans htask) (by decide)

/-- A frame with no skip left is delivered (45_frame_supervisor R282). -/
theorem step_runframe_delivered (h : s.Suppresses 0)
    (hin : s.inputs = .port .host (encode s.cfg (.runframe p1 p2)) :: rest) :
    ∃ t, step s = .next t ∧ t.reply = .invoke ∧ t.sup.phase = .inHandler ∧ t.sup.nmiDelivered = true ∧
      t.sched.pendingSkips = 0 ∧ t.sched.skippedCount = s.sched.skippedCount ∧ t.sup.frameCounter = s.sup.frameCounter := by
  have hsched := (h.ports rest .host).frameStart_sched p1 p2
  refine ⟨_, step_runframe h.idle hin, ?_⟩
  rw [runFrame_of_pending (by simp [hsched])]
  exact ⟨rfl, rfl, rfl, by simp [hsched], by simp [hsched], rfl⟩

/-- `n` suppressed frames, and the delivered one (70_reset_and_hazards R361). -/
theorem run_runframes (n : Nat) {s : State} (h : s.Suppresses n)
    (hin : s.inputs = List.replicate (n + 1) (.port .host (encode s.cfg (.runframe p1 p2))) ++ rest) :
    replies (n + 1) s = some (List.replicate n (.done false) ++ [.invoke]) ∧
    ∃ t, Host.Core.run core (n + 1) s = .next t ∧ t.sup.phase = .inHandler ∧ t.sup.nmiDelivered = true ∧
      t.sched.pendingSkips = 0 ∧ t.sched.skippedCount = s.sched.skippedCount + n ∧
      t.sup.frameCounter = s.sup.frameCounter + n := by
  induction n generalizing s with
  | zero =>
    obtain ⟨t, hstep, hreply, hrest⟩ := step_runframe_delivered h hin
    refine ⟨?_, t, run_succ_of_step hstep, hrest⟩
    rw [replies_succ_of_step hstep, hreply]
    rfl
  | succ n ih =>
    obtain ⟨u, hstep, hu, hcfg, hinU, hreply, hskipped, hframe⟩ := step_runframe_suppressed h hin
    obtain ⟨hreplies, t, hrun, hphase, hdelivered, hpending, hskippedT, hframeT⟩ := ih hu (hcfg ▸ hinU)
    refine ⟨?_, t, (run_succ_of_step hstep).trans hrun, hphase, hdelivered, hpending, by omega, by omega⟩
    rw [replies_succ_of_step hstep, hreplies, hreply]
    rfl

end Suppression

/-- Settles O58: each frame takes one of the skips, and records the task cell, so that no later frame sees a transition. -/
theorem pendingSkipsThenDelivery : Obligations.PendingSkipsThenDelivery := by
  intro n s p1 p2 rest hidle henabled hpending hunmarked htask hin
  have hquiet : ¬ (s.sched.isFirstFrame = false ∧ s.sched.prevTask = 0 ∧ memRead s s.cfg.aTask = 1) := by
    rintro ⟨hfirst, hstep⟩
    obtain h | h := htask
    · exact Bool.false_ne_true (hfirst.symm.trans h)
    · exact h hstep
  exact run_runframes n ⟨hidle, henabled, hpending, hunmarked, hquiet⟩ hin

end Sys2Proof.Machine

namespace Sys2Proof.Machine

/-! ## Admission, phase by phase -/

/-- The reason an operation that is not admitted is refused for, by phase and issuer (45_frame_supervisor R291). -/
def refusalReason : Phase → Agent → Refusal
  | .idle, _ => .noHandlerRuns
  | .inHandler, .host => .hostWaits
  | .inHandler, .handler => .notForHandler
  | .halted, _ => .halted

/-- The row of an operation decides whether it is refused, the phase and the issuer alone decide why. -/
theorem admission_of_ne_none {p : Phase} {a : Agent} {c : OpClass} (h : admission p a c ≠ none) :
    admission p a c = some (refusalReason p a) := by
  cases p <;> cases a <;> cases c <;> simp [admission, refusalReason] at h ⊢

theorem exists_guarded_next_iff {c : OpClass} {s u : State} :
    (∃ t, guarded c s u = .next t) ↔ admission s.sup.phase s.issuer c = none := by
  simp [guarded_eq_next_iff]

/-- Settles O4: every operation is a guarded effect of its row, and the table admits a row or gives the phase's reason. -/
theorem admittedExactlyByPhase : Obligations.AdmittedExactlyByPhase := by
  intro i s
  obtain ⟨u, hu⟩ := exec_guarded s i
  rw [hu, exists_guarded_next_iff]
  refine ⟨?admitted, fun hno => ?refused⟩
  case admitted =>
    cases opClass i with
    | bus => exact admission_bus s
    | handlerCommand => exact admission_handlerCommand s
    | restart => exact admission_restart s
    | hostCommand => exact admission_hostCommand s
  case refused => exact guarded_refused (admission_of_ne_none hno) u

section Admission

variable {a : Agent} {c : OpClass} {i : Instr} {s t : State}

theorem class_of_admission_inHandler (h : admission .inHandler a c = none) : c = .bus ∨ c = .handlerCommand := by
  cases a <;> cases c <;> simp [admission] at h ⊢

theorem restart_of_admission_halted (h : admission .halted a c = none) : a = .host ∧ c = .restart := by
  cases a <;> cases c <;> simp [admission] at h ⊢

theorem opClass_of_exec_inHandler (h : exec i s = .next t) (hp : s.sup.phase = .inHandler) :
    opClass i = .bus ∨ opClass i = .handlerCommand :=
  class_of_admission_inHandler (hp ▸ admitted_of_exec_next h)

theorem opClass_eq_restart_iff : opClass i = .restart ↔ i = .reset ∨ i = .supInit := by
  cases i <;> simp [opClass]

theorem restart_of_exec_halted (h : exec i s = .next t) (hp : s.sup.phase = .halted) :
    s.issuer = .host ∧ (i = .reset ∨ i = .supInit) := by
  obtain ⟨hhost, hclass⟩ := restart_of_admission_halted (hp ▸ admitted_of_exec_next h)
  exact ⟨hhost, opClass_eq_restart_iff.1 hclass⟩

end Admission

/-! ## What each operation does to the supervisor -/

section Supervisor

variable {i : Instr} {s t : State}

/-- What the HANDLER may issue leaves the supervisor and the pending mark (60_exceptions R320). -/
theorem exec_handler_keeps (hc : opClass i = .bus ∨ opClass i = .handlerCommand) (h : exec i s = .next t) :
    t.sup = s.sup ∧ t.sched.nmiPending = s.sched.nmiPending := by
  cases i
  case reset | ctlReset | setbtn | ppuReset | beginVblank | endVblank | nmiQuery | schedInit | schedTick | runframe |
      deliveredQuery | setTimeout | schedStat | supInit =>
    simp [opClass] at hc
  all_goals
    obtain ⟨-, rfl⟩ := guarded_eq_next_iff.1 h
    exact ⟨rfl, rfl⟩

theorem exec_restart_sup (hi : i = .reset ∨ i = .supInit) (h : exec i s = .next t) : t.sup = Sup.init s.cfg := by
  obtain rfl | rfl := hi
  · obtain ⟨-, rfl⟩ := guarded_eq_next_iff.1 (exec_reset s ▸ h)
    rfl
  · obtain ⟨-, rfl⟩ := guarded_eq_next_iff.1 (exec_supInit s ▸ h)
    rfl

/-- RUNFRAME, RESET and SUP_INIT alone write the phase or the frame counter (10_state R50, R52). -/
theorem exec_keeps_phase_and_counter (hrun : ∀ p1 p2, i ≠ .runframe p1 p2) (hreset : i ≠ .reset) (hinit : i ≠ .supInit)
    (h : exec i s = .next t) : t.sup.phase = s.sup.phase ∧ t.sup.frameCounter = s.sup.frameCounter := by
  cases i
  case runframe p1 p2 => exact absurd rfl (hrun p1 p2)
  case reset => exact absurd rfl hreset
  case supInit => exact absurd rfl hinit
  case setbtn port mask =>
    obtain ⟨c, r, rfl⟩ := exec_setbtn_next h
    exact ⟨rfl, rfl⟩
  all_goals
    obtain ⟨-, rfl⟩ := guarded_eq_next_iff.1 h
    exact ⟨rfl, rfl⟩

theorem raiseException_leaves_inHandler (x : HandlerException) :
    (raiseException x s).sup.phase ≠ .inHandler ∧ (raiseException x s).sup.frameCounter = s.sup.frameCounter + 1 := by
  cases x <;> exact ⟨nofun, rfl⟩

end Supervisor

/-! ## RUNFRAME -/

section Runframe

variable (p1 p2 : Byte) (s : State)

/-- The prologue of a frame is a tick of the state whose buttons are set and whose vertical blank has just begun
(45_frame_supervisor R282, 41_ppu_registers R202). -/
theorem frameStart_eq_schedTick : frameStart p1 p2 s =
    schedTick
      { s with
        ctl := { s.ctl with buttonState := ⟨if 0 < s.cfg.nPorts then p1 else s.ctl.buttonState.port0,
                                            if 1 < s.cfg.nPorts then p2 else s.ctl.buttonState.port1⟩ }
        ppu := s.ppu.endVblank.beginVblank
        sup := { s.sup with nmiDelivered := false } } :=
  frameStart_eq s p1 p2

theorem frameStart_sup : (frameStart p1 p2 s).sup = { s.sup with nmiDelivered := false } := by
  rw [frameStart_eq]

theorem runFrame_keeps_serial :
    (runFrame p1 p2 s).ctl.shiftRegister = s.ctl.shiftRegister ∧ (runFrame p1 p2 s).ctl.strobeState = s.ctl.strobeState := by
  obtain ⟨-, h⟩ | ⟨-, h⟩ := runFrame_cases s p1 p2 <;> simp [h, frameStart_eq]

theorem runFrame_keeps_records :
    (runFrame p1 p2 s).sup.timeout = s.sup.timeout ∧ (runFrame p1 p2 s).sup.snapshot = s.sup.snapshot ∧
    (runFrame p1 p2 s).sup.lastHandlerError = s.sup.lastHandlerError := by
  obtain ⟨-, h⟩ | ⟨-, h⟩ := runFrame_cases s p1 p2 <;> simp [h, frameStart_sup]

/-- A frame that starts in `Idle` is counted at once: as ended, or as the one whose HANDLER runs (45_frame_supervisor R290). -/
theorem runFrame_framesAccepted (hp : s.sup.phase = .idle) : (runFrame p1 p2 s).framesAccepted = s.framesAccepted + 1 := by
  obtain ⟨-, h⟩ | ⟨-, h⟩ := runFrame_cases s p1 p2 <;> simp [h, State.framesAccepted, frameStart_sup, hp]

end Runframe

/-- Settles O21: the state after the five calls is the tick's but for the reply, and the pending mark decides how the step ends. -/
theorem runframeSequence : Obligations.RunframeSequence := by
  intro p1 p2 s hadm
  have hnext := guarded_next ((admission_hostCommand s).2 hadm)
  refine ⟨(frameStart p1 p2 s).answer .ok, ?tick, fun hpending => ?delivered, fun hpending => ?ended⟩
  case tick =>
    rw [frameStart_eq_schedTick]
    exact (exec_schedTick _).trans (guarded_next ((admission_hostCommand _).2 hadm) _)
  case delivered => rw [exec_runframe, hnext, runFrame_of_pending hpending]; rfl
  case ended => rw [exec_runframe, hnext, runFrame_of_not_pending hpending]; rfl

/-- Settles O37: component by component; the two ends write the pending mark, the delivered bit, the phase and the counter alone. -/
theorem frameOfRunframe : Obligations.FrameOfRunframe := by
  intro p1 p2 s t h
  obtain ⟨-, rfl⟩ := guarded_eq_next_iff.1 (exec_runframe s p1 p2 ▸ h)
  obtain ⟨hshift, hstrobe⟩ := runFrame_keeps_serial p1 p2 s
  have hrecords := runFrame_keeps_records p1 p2 s
  refine ⟨fun a => by rw [runFrame_mem], runFrame_sameSurroundings p1 p2, ?memories, hshift, hstrobe, ?_⟩
  case memories => rw [runFrame_ppu]; exact ⟨fun _ => rfl, fun _ => rfl⟩
  rw [runFrame_ppu]
  exact ⟨rfl, rfl, rfl, rfl, rfl, rfl, rfl, hrecords⟩

/-! ## The three ends of an invocation -/

/-- Settles O22: in a well-formed state the delivered bit that the return reports is set. -/
theorem handlerReturnFinishesFrame : Obligations.HandlerReturnFinishesFrame := by
  intro s rest hwf hp hin
  obtain ⟨⟨hdelivered, -⟩, -⟩ := (supervisorWf_inHandler_iff hp).1 hwf
  rw [step_event hin]
  refine endHandler_eq_next_iff.2 ⟨hp, ?_⟩
  rw [returnFromHandler, finishFrame, hdelivered]

/-- Settles O23: while the HANDLER runs its fault is taken, with all it changes. -/
theorem handlerFaultRecordedAndRaised : Obligations.HandlerFaultRecordedAndRaised := by
  intro s rest e hp hin
  rw [step_event hin]
  exact endHandler_eq_next_iff.2 ⟨hp, raise_handlerFault _ e⟩

section Snapshot

variable (f : Nat) (s : State)

theorem makeSnapshot_length : (makeSnapshot f s).length = s.cfg.snapshotCells.length + 1 := by
  simp [makeSnapshot, readCells]

/-- The pair of the `k`-th configured cell (45_frame_supervisor R287). -/
theorem makeSnapshot_getElem?_succ {k : Nat} {label : String} {a : Addr} (h : s.cfg.snapshotCells[k]? = some (label, a)) :
    (makeSnapshot f s)[k + 1]? = some (label, (s.mem.read a.toNat).toNat) := by
  simp [makeSnapshot, readCells, h]

end Snapshot

/-- Settles O24: while the HANDLER runs the timeout is taken, and its record is the snapshot of the frame. -/
theorem handlerTimeoutSnapshotsAndHalts : Obligations.HandlerTimeoutSnapshotsAndHalts := by
  intro s rest hp hin
  refine ⟨makeSnapshot s.sup.frameCounter s, ?taken, makeSnapshot_length _ s, rfl, fun k label a => makeSnapshot_getElem?_succ _ s⟩
  rw [step_event hin]
  exact watchdogExpires_eq_next_iff.2 ⟨hp, raise_handlerTimeout _⟩

/-! ## What every step does to the phase and the frame counter -/

section Steps

variable {i : Instr} {s t : State}

/-- Which event a step took, and what an end of an invocation does to the phase and the counter (45_frame_supervisor R283 to R286). -/
theorem step_next_events (h : step s = .next t) :
    (s.inputs = [] ∧ t = s) ∨
    (s.nextEnds = false ∧ ∃ i rest agent, s.nextOperation = some i ∧ exec i { s with inputs := rest, issuer := agent } = .next t) ∨
    (s.nextEnds = true ∧ s.nextOperation = none ∧ s.sup.phase = .inHandler ∧ t.sup.phase ≠ .inHandler ∧
      t.sup.frameCounter = s.sup.frameCounter + 1) := by
  obtain hempty | ⟨rest, agent, w, i, hin, hdec, he⟩ | ⟨rest, k, hin, he⟩ | ⟨rest, hin, hp, rfl⟩ | ⟨rest, e, hin, hp, rfl⟩ |
    ⟨rest, hin, hp, rfl⟩ := step_next_cases h
  · exact .inl hempty
  · exact .inr (.inl ⟨by simp [State.nextEnds, hin], i, rest, agent, by simp [State.nextOperation, hin, hdec], he⟩)
  · exact .inr (.inl ⟨by simp [State.nextEnds, hin], _, rest, .host, by simp [State.nextOperation, hin], he⟩)
  · exact .inr (.inr ⟨by simp [State.nextEnds, hin], by simp [State.nextOperation, hin], hp, nofun, rfl⟩)
  · exact .inr (.inr ⟨by simp [State.nextEnds, hin], by simp [State.nextOperation, hin], hp, raiseException_leaves_inHandler _⟩)
  · exact .inr (.inr ⟨by simp [State.nextEnds, hin], by simp [State.nextOperation, hin], hp, raiseException_leaves_inHandler _⟩)

theorem exec_of_nextOperation (h : step s = .next t) (hop : s.nextOperation = some i) :
    ∃ rest agent, exec i { s with inputs := rest, issuer := agent } = .next t := by
  obtain ⟨hin, -⟩ | ⟨-, j, rest, agent, hj, he⟩ | ⟨-, hnone, -⟩ := step_next_events h
  · simp [State.nextOperation, hin] at hop
  · obtain rfl : j = i := Option.some.inj (hj.symm.trans hop)
    exact ⟨rest, agent, he⟩
  · cases hnone.symm.trans hop

/-- An end of an invocation moves its frame from the running to the ended ones (45_frame_supervisor R290). -/
theorem framesAccepted_of_no_operation (h : step s = .next t) (hop : s.nextOperation = none) :
    t.framesAccepted = s.framesAccepted := by
  obtain ⟨-, rfl⟩ | ⟨-, i, rest, agent, hi, -⟩ | ⟨-, -, hp, hleft, hcount⟩ := step_next_events h
  · rfl
  · cases hop.symm.trans hi
  · simp [State.framesAccepted, hp, hleft, hcount]

end Steps

/-- Settles O48: the HANDLER's own operations leave the supervisor and the mark, and an end is taken only while it runs. -/
theorem onlyEndingsLeaveHandler : Obligations.OnlyEndingsLeaveHandler := by
  refine ⟨fun s hp hends => ?outside, fun s t hp h => ?inside⟩
  case outside =>
    cases hstep : step s with
    | next t =>
      obtain ⟨hin, -⟩ | ⟨hnot, -⟩ | ⟨-, -, hrun, -⟩ := step_next_events hstep
      · simp [State.nextEnds, hin] at hends
      · cases hnot.symm.trans hends
      · exact absurd hrun hp
    | fault r => exact nomatch r
    | refused r => exact ⟨r, rfl⟩
  case inside =>
    obtain ⟨hin, rfl⟩ | ⟨hnot, i, rest, agent, -, he⟩ | ⟨hends, -, -, hleft, hcount⟩ := step_next_events h
    · exact ⟨fun _ => ⟨hp, rfl, rfl, rfl⟩, fun hends => by simp [State.nextEnds, hin] at hends⟩
    · obtain ⟨hsup, hpending⟩ := exec_handler_keeps (opClass_of_exec_inHandler he hp) he
      simp [hnot, hsup, hpending, hp]
    · exact ⟨fun hnot => (Bool.false_ne_true (hnot.symm.trans hends)).elim, fun _ => ⟨hleft, hcount⟩⟩

/-- Settles O49: in `Halted` the table admits the HOST's restarts alone, and no invocation is there to end. -/
theorem onlyRestartLeavesHalted : Obligations.OnlyRestartLeavesHalted := by
  intro s t hp hne h
  obtain ⟨hin, -⟩ | ⟨-, i, rest, agent, hop, he⟩ | ⟨-, -, hrun, -⟩ := step_next_events h
  · exact absurd hin hne
  · obtain ⟨hhost, hi⟩ := restart_of_exec_halted he hp
    have hsup := exec_restart_sup hi he
    obtain ⟨-, -, -, hissuer⟩ := exec_sameSurroundings he
    exact ⟨by simpa [hop] using hi, hissuer.trans hhost, congrArg Sup.phase hsup, congrArg Sup.frameCounter hsup⟩
  · cases hp.symm.trans hrun

/-- Settles O51: RUNFRAME is admitted in `Idle` alone, and nothing but a restart and the ends of a frame moves the count. -/
theorem framesAcceptedLaw : Obligations.FramesAcceptedLaw := by
  intro s t h
  refine ⟨fun ⟨p1, p2, hop⟩ => ?runframe, fun hrestart => ?restart, fun hrun hreset hinit => ?other⟩
  case runframe =>
    obtain ⟨rest, agent, he⟩ := exec_of_nextOperation h hop
    obtain ⟨hadm, rfl⟩ := guarded_eq_next_iff.1 (exec_runframe _ p1 p2 ▸ he)
    exact runFrame_framesAccepted p1 p2 _ ((admission_hostCommand _).1 hadm).1
  case restart =>
    obtain ⟨i, hop, hi⟩ : ∃ i, s.nextOperation = some i ∧ (i = .reset ∨ i = .supInit) := by
      obtain hop | hop := hrestart
      · exact ⟨_, hop, .inl rfl⟩
      · exact ⟨_, hop, .inr rfl⟩
    obtain ⟨rest, agent, he⟩ := exec_of_nextOperation h hop
    rw [State.framesAccepted, exec_restart_sup hi he]
    rfl
  case other =>
    cases hop : s.nextOperation with
    | none => exact framesAccepted_of_no_operation h hop
    | some i =>
      obtain ⟨rest, agent, he⟩ := exec_of_nextOperation h hop
      simp only [hop, ne_eq, Option.some.injEq] at hrun hreset hinit
      obtain ⟨hphase, hcount⟩ := exec_keeps_phase_and_counter hrun hreset hinit he
      rw [State.framesAccepted, hphase, hcount]
      rfl

end Sys2Proof.Machine

namespace Sys2Proof.Machine

/-! ## Where the two exceptions are raised -/

section Raises

variable {i : Instr} {s t : State}

/-- The reply is the RESULT of a raised exception (30_encoding R128, 60_exceptions R310). -/
def Reply.raises : Reply → Bool
  | .raisedFault _ _ | .raisedTimeout _ => true
  | _ => false

theorem Reply.raises_iff {r : Reply} : r.raises = true ↔ (∃ f e, r = .raisedFault f e) ∨ ∃ snap, r = .raisedTimeout snap := by
  cases r <;> simp [Reply.raises]

theorem runFrame_not_raises (p1 p2 : Byte) (s : State) : (runFrame p1 p2 s).reply.raises = false := by
  obtain ⟨-, h⟩ | ⟨-, h⟩ := runFrame_cases s p1 p2 <;> rw [h] <;> rfl

/-- Every operation puts its own outcome on the port, and none is an exception; RUNFRAME's is the invocation or the end of a frame
(60_exceptions R313, 45_frame_supervisor R282). -/
theorem exec_not_raises (h : exec i s = .next t) : t.reply.raises = false := by
  cases i
  case setbtn port mask =>
    obtain ⟨-, rfl⟩ := guarded_eq_next_iff.1 (exec_setbtn s port mask ▸ h)
    cases padOf s.cfg port <;> rfl
  case runframe p1 p2 =>
    obtain ⟨-, rfl⟩ := guarded_eq_next_iff.1 (exec_runframe s p1 p2 ▸ h)
    exact runFrame_not_raises p1 p2 s
  all_goals
    obtain ⟨-, rfl⟩ := guarded_eq_next_iff.1 h
    rfl

end Raises

/-- Settles O50: a step that takes an event is an operation, which overwrites the reply with no exception, or ends the HANDLER's
invocation. -/
theorem onlyHandlerEndsRaise : Obligations.OnlyHandlerEndsRaise := by
  intro s t hne h hraised
  obtain ⟨hin, -⟩ | ⟨-, i, rest, agent, -, he⟩ | ⟨hends, -, hrun, -⟩ := step_next_events h
  · exact absurd hin hne
  · exact (Bool.false_ne_true ((exec_not_raises he).symm.trans (Reply.raises_iff.2 hraised))).elim
  · exact ⟨hrun, hends⟩

end Sys2Proof.Machine

namespace Sys2Proof.Machine

/-! ## The resets -/

section Resets

variable {i : Instr} {s t : State}

/-- Where a command of the HOST is admitted, so is a restart (45_frame_supervisor R291). -/
theorem State.commandAdmitted.restartAdmitted (h : s.commandAdmitted) : s.restartAdmitted := by
  obtain ⟨hidle, hhost⟩ := h
  exact ⟨.inl hidle, hhost⟩

theorem exec_reset_of_admitted (h : s.restartAdmitted) : exec .reset s = .next
    { s with ctl := Ctl.reset, ppu := Ppu.reset, sched := Sched.init s.cfg, sup := Sup.init s.cfg, reply := .ok } :=
  (exec_reset s).trans (guarded_next ((admission_restart s).2 h) _)

/-- A reset puts its own component, or for RESET all four, at the reset value and keeps the others (70_reset_and_hazards R350, R352). -/
theorem exec_resets_next (hi : i = .reset ∨ i = .ctlReset ∨ i = .ppuReset ∨ i = .schedInit ∨ i = .supInit)
    (h : exec i s = .next t) :
    t = { s with
      ctl := if i = .reset ∨ i = .ctlReset then Ctl.reset else s.ctl
      ppu := if i = .reset ∨ i = .ppuReset then Ppu.reset else s.ppu
      sched := if i = .reset ∨ i = .schedInit then Sched.init s.cfg else s.sched
      sup := if i = .reset ∨ i = .supInit then Sup.init s.cfg else s.sup
      reply := .ok } := by
  obtain rfl | rfl | rfl | rfl | rfl := hi
  · exact (guarded_eq_next_iff.1 (exec_reset s ▸ h)).2.symm
  · exact (guarded_eq_next_iff.1 (exec_ctlReset s ▸ h)).2.symm
  · exact (guarded_eq_next_iff.1 (exec_ppuReset s ▸ h)).2.symm
  · exact (guarded_eq_next_iff.1 (exec_schedInit s ▸ h)).2.symm
  · exact (guarded_eq_next_iff.1 (exec_supInit s ▸ h)).2.symm

end Resets

/-- Settles O27: in `Idle` the first three resets leave the phase and the issuer, so each is admitted after the one before it. -/
theorem resetIsFourComponentResets : Obligations.ResetIsFourComponentResets := by
  refine ⟨fun s hadm => ?inOrder, fun s hadm => ?anywhere⟩
  case inOrder =>
    have hcommand := (admission_hostCommand s).2 hadm
    have hrestart := (admission_restart s).2 hadm.restartAdmitted
    exact ⟨_, _, _, _, (exec_ctlReset s).trans (guarded_next hcommand _), (exec_ppuReset _).trans (guarded_next hcommand _),
      (exec_schedInit _).trans (guarded_next hcommand _), (exec_supInit _).trans (guarded_next hrestart _),
      exec_reset_of_admitted hadm.restartAdmitted⟩
  case anywhere =>
    exact ⟨_, exec_reset_of_admitted hadm, rfl, rfl, rfl, rfl, fun _ => rfl, rfl, rfl, rfl, rfl⟩

/-- Settles O36: the four components, each kept unless the operation is RESET or its own reset; `Sup.init` sets the timeout. -/
theorem frameOfResets : Obligations.FrameOfResets := by
  intro i s t hi h
  have hsurroundings := exec_sameSurroundings h
  obtain rfl := exec_resets_next hi h
  refine ⟨fun _ => rfl, hsurroundings, fun hreset hown => ?_, fun hreset hown => ?_, fun hreset hown => ?_,
    fun hreset hown => ?_, fun hrestart => ?timeout⟩
  case timeout => exact congrArg Sup.timeout (if_pos hrestart)
  all_goals exact if_neg (not_or_intro hreset hown)

/-- Settles O28: the values of the reset record; its memories list no byte, its ports are idle, and it admits RESET. -/
theorem resetLeavesStatedValues : Obligations.ResetLeavesStatedValues :=
  ⟨rfl, rfl, rfl, rfl, rfl, rfl, rfl, rfl, Memory.read_nil, Memory.read_nil, step_idle rfl, exec_reset_of_admitted ⟨.inl rfl, rfl⟩⟩

/-- The parameters of 00_scope R6 meet their constraints. -/
theorem Config.default_wf : Config.default.wf = true := by decide

/-- Settles O44: the default parameters, empty flat memory, and the PPU and the supervisor at their reset values. -/
theorem resetHasInvariant : Obligations.ResetHasInvariant :=
  inv_iff.2 ⟨Config.default_wf, rfl, Ppu.Wf.reset Config.default_wf, supervisorWf_of_init rfl⟩

end Sys2Proof.Machine
